-- ==== Sys2Proof/Word.lean ====
section
/-! DEFINITION. The words the spec treats as bits: bytes of frames, 16-bit fields and 32-bit registers (00_scope.md R8). -/

namespace Sys2Proof

/-- An unsigned value of 8 bits, the spec's `u8`: one byte of a frame. -/
abbrev Byte := BitVec 8

/-- An unsigned value of 16 bits, the spec's `u16`: the CRC accumulator, a length field, an operand field. -/
abbrev Half := BitVec 16

/-- An unsigned value of 32 bits, the spec's `u32`: a register of the window, a command word. -/
abbrev Word := BitVec 32

end Sys2Proof
end

