-- ==== Sys2Proof/Config.lean ====
section
/-! DEFINITION. The implementation parameters of 00_scope.md R6: what the model takes as an argument (`Config`), the
defaults the spec gives, the values it fixes, and an opaque constant for each value it leaves OPEN. -/

namespace Sys2Proof

/-- The parameters of 00_scope.md R6 that an implementation may choose. They are an argument of the step relation
(10_state.md R47): the state carries one `Config`, and no step writes it. -/
structure Config where
  /-- BASE divided by 256. BASE must be a multiple of 256 (20_memory.md R61). -/
  basePage : Nat
  /-- CRC_POLY, the generator polynomial in normal form. -/
  crcPoly : Half
  /-- CRC_INIT, the accumulator's start value before reflection. -/
  crcInit : Half
  /-- CRC_REFIN: input bytes are processed least significant bit first. -/
  crcRefIn : Bool
  /-- CRC_REFOUT: the accumulator is output without a further reflection relative to CRC_REFIN. -/
  crcRefOut : Bool
  /-- CRC_XOROUT, XORed into the final CRC. -/
  crcXorOut : Half
  /-- CRC_REGION_LAST, the last frame byte the image-request CRC covers: 25 or 26 only (00_scope.md R7). -/
  crcRegionLast : Nat
  /-- TCP_DATA_LEN_BYTES, the data-length bytes between marker and codec: 0 or 4 only (00_scope.md R7). -/
  tcpDataLenBytes : Nat
  /-- SLEEP_CODE_GPS_RST, the reset value of VCFG.SLEEP_A. -/
  sleepCodeGpsRst : Byte
  /-- SLEEP_CODE_DEEP_RST, the reset value of VCFG.SLEEP_B. -/
  sleepCodeDeepRst : Byte
  deriving DecidableEq, Repr

/-- BASE, the host address of window byte 0, a multiple of 256 (20_memory.md R61). -/
def Config.base (c : Config) : Nat := 256 * c.basePage

/-- BASE is OPEN (00_scope.md R6): no value is chosen, so nothing can be proved of this one. See notes/assumptions/4.md. -/
opaque Config.openBasePage : Nat

/-- SLEEP_CODE_GPS_RST is OPEN (00_scope.md R6): no value is chosen. See notes/assumptions/4.md. -/
opaque Config.openSleepCodeGps : Byte

/-- SLEEP_CODE_DEEP_RST is OPEN (00_scope.md R6): no value is chosen. See notes/assumptions/4.md. -/
opaque Config.openSleepCodeDeep : Byte

/-- The spec's defaults (00_scope.md R6): CRC-16/ARC, CRC_REGION_LAST = 25, TCP_DATA_LEN_BYTES = 0; the OPEN parameters
stay open. -/
def Config.default : Config where
  basePage := Config.openBasePage
  crcPoly := 0x8005#16
  crcInit := 0x0000#16
  crcRefIn := true
  crcRefOut := true
  crcXorOut := 0x0000#16
  crcRegionLast := 25
  tcpDataLenBytes := 0
  sleepCodeGpsRst := Config.openSleepCodeGps
  sleepCodeDeepRst := Config.openSleepCodeDeep

/-- The CRC parameters of `c` are the spec's defaults, CRC-16/ARC (00_scope.md R6). -/
abbrev Config.CrcDefaults (c : Config) : Prop :=
  c.crcPoly = 0x8005#16 ∧ c.crcInit = 0x0000#16 ∧ c.crcRefIn = true ∧ c.crcRefOut = true ∧ c.crcXorOut = 0x0000#16

/-- CHUNK_MAX, fixed (00_scope.md R6): the largest chunk an image request asks for. -/
def chunkMax : Nat := 2048

/-- KNOWN_CODECS, fixed (00_scope.md R6): the codec bytes the parser accepts. -/
def knownCodecs : List Byte := [0x07#8, 0x08#8, 0x8E#8, 0x0C#8, 0x10#8]

/-- SERIAL_CODEC, fixed (00_scope.md R6): the codec byte of the image request. -/
def serialCodec : Byte := 0x0C#8

/-- GPS_SLEEP_RST, fixed (00_scope.md R6): the reset value of VCFG.GPS_SLEEP. -/
def gpsSleepRst : Byte := 3#8

end Sys2Proof
end

