-- ==== Sys2Proof/Syntax.lean ====
section
/-! DEFINITION. The commands (30_encoding.md R83), the registers of the window (10_state.md R21), the accesses a host makes
(00_scope.md R10, 20_memory.md R62, R63) and the assembler's source lines (30_encoding.md R88, R89). -/

namespace Sys2Proof

/-- The transport of a frame, PSTAT.MODE (10_state.md R26): 0 = TCP, 1 = UDP. -/
inductive Transport
  | tcp
  | udp
  deriving DecidableEq, Repr

/-- The fourteen commands of 30_encoding.md R83, one constructor per row, with the operand fields of R82. Every term is
well-formed: an operand's type is exactly the width its layout gives it. -/
inductive Instr
  /-- NOP, 46_system.md R220. -/
  | nop
  /-- SRST, 46_system.md R221. -/
  | srst
  /-- CRC.INIT, 43_crc16.md R163. -/
  | crcInit
  /-- CRC.BYTE b, 43_crc16.md R164. -/
  | crcByte (b : Byte)
  /-- PRS.START m, 41_frame_parser.md R101. -/
  | prsStart (m : Transport)
  /-- PRS.BYTE b, 41_frame_parser.md R102. -/
  | prsByte (b : Byte)
  /-- PRS.END, 41_frame_parser.md R114. -/
  | prsEnd
  /-- BLD.IDACK a, 44_frame_builder.md R181: `a` is true for accepted. -/
  | bldIdack (a : Bool)
  /-- BLD.TCPACK n, 44_frame_builder.md R182. -/
  | bldTcpack (n : Byte)
  /-- BLD.UDPACK loc, n, 44_frame_builder.md R183. -/
  | bldUdpack (loc n : Byte)
  /-- BLD.IMGREQ, 44_frame_builder.md R187. -/
  | bldImgreq
  /-- XFER.INIT, 42_transfer.md R142. -/
  | xferInit
  /-- XFER.CHUNK len, 42_transfer.md R143. -/
  | xferChunk (len : Half)
  /-- VAL.CHECK, 45_validity.md R204. -/
  | valCheck
  deriving DecidableEq, Repr

/-- Why a word is no command: the three cases of 30_encoding.md R85. The block's answer is the same for all three. -/
inductive DecodeError
  /-- OP is not in the table of 30_encoding.md R83. -/
  | unknownOpcode
  /-- RES is not 0. -/
  | reservedBits
  /-- OPND has a bit set that the command's layout does not use. -/
  | operandBits
  deriving DecidableEq, Repr

/-- One row of the opcode map, 30_encoding.md R83: a word w is the command when (w AND mask) = pattern. -/
structure OpcodeRow where
  mnemonic : String
  pattern : Word
  mask : Word
  deriving DecidableEq, Repr

/-- The 31 mapped registers of the window, by the names of 10_state.md R21. -/
inductive Reg
  | cmd | status | crcacc | crcval | pstat | phdr0 | phdr1 | pblk | ppos | pboff | pdlen
  | tid | off | rsz | decl | xstat | xtid | xdecl | xwoff | vin | vcfg | vout | txlen
  | txbuf (k : Fin 8)
  deriving DecidableEq, Repr

/-- What reaches the block from outside, one at a time: a host access of `size` bytes at window offset `off`, that is at host
address BASE + off (00_scope.md R10), or the platform's reset (70_reset_and_hazards.md R260). Accesses the block does not
admit (20_memory.md R63) can be written down, so that the model can refuse them. -/
inductive Event
  | read (off size : Nat)
  | write (off size : Nat) (v : Word)
  | platformReset
  deriving DecidableEq, Repr

/-- An element of a byte list in assembler source: a number, or a string operand standing for its ASCII bytes
(30_encoding.md R89). -/
inductive SrcItem
  | num (n : Nat)
  | text (s : String)
  deriving DecidableEq, Repr

/-- A command in assembler source (30_encoding.md R88). Operands are plain numbers, so one out of its layout's range can be
written down, and the assembler refuses it. -/
inductive SrcCommand
  | nop
  | srst
  | crcInit
  | crcByte (b : Nat)
  | prsStart (m : Transport)
  | prsByte (b : Nat)
  | prsEnd
  | bldIdack (accept : Bool)
  | bldTcpack (n : Nat)
  | bldUdpack (loc n : Nat)
  | bldImgreq
  | xferInit
  | xferChunk (len : Nat)
  | valCheck
  deriving DecidableEq, Repr

/-- One line of a host program (30_encoding.md R88) or one pseudo-instruction (R89). -/
inductive SrcLine
  | wr (r : Reg) (value : Nat)
  | rd (r : Reg)
  | command (c : SrcCommand)
  | crcBuf (bytes : List SrcItem)
  | prsFeed (bytes : List SrcItem)
  | prsFrame (m : Transport) (bytes : List SrcItem)
  | imgreq (tid off size : Nat)
  | xferStart (tid decl : Nat)
  | xferRecv (tid len : Nat)
  | val (vin : Nat)
  deriving DecidableEq, Repr

end Sys2Proof
end

