-- ==== Sys2Proof/WellFormed.lean ====
section
/-! DEFINITION. The checks on what is given to the model: the implementation parameters (00_scope.md R7) and the
operands of assembler source (30_encoding.md R88). The check on a host access (20_memory.md R62) is in Machine/Window.lean. An `Instr` needs no check: its operands' types
are the widths of 30_encoding.md R82. -/

namespace Sys2Proof

/-- 00_scope.md R7: CRC_REGION_LAST ∈ {25, 26} and TCP_DATA_LEN_BYTES ∈ {0, 4}. Any other value is refused. -/
def Config.wellFormed (c : Config) : Bool :=
  (c.crcRegionLast == 25 || c.crcRegionLast == 26) && (c.tcpDataLenBytes == 0 || c.tcpDataLenBytes == 4)

/-- 30_encoding.md R88: every operand of a source command is in its layout's range. -/
def SrcCommand.wellFormed : SrcCommand → Bool
  | .nop | .srst | .crcInit | .prsEnd | .bldImgreq | .xferInit | .valCheck => true
  | .prsStart _ | .bldIdack _ => true
  | .crcByte b | .prsByte b => decide (b < 256)
  | .bldTcpack n => decide (n < 256)
  | .bldUdpack loc n => decide (loc < 256) && decide (n < 256)
  | .xferChunk len => decide (len < 65536)

/-- A string operand stands for its ASCII bytes (30_encoding.md R89); a number is one byte. -/
def SrcItem.wellFormed : SrcItem → Bool
  | .num n => decide (n < 256)
  | .text s => s.toList.all fun c => decide (c.toNat < 128)

/-- 30_encoding.md R88, R89: no operand of the line is out of range. A value written to a register has 32 bits. -/
def SrcLine.wellFormed : SrcLine → Bool
  | .wr _ value => decide (value < 2 ^ 32)
  | .rd _ => true
  | .command c => c.wellFormed
  | .crcBuf bytes | .prsFeed bytes => bytes.all SrcItem.wellFormed
  | .prsFrame _ bytes => bytes.all SrcItem.wellFormed
  | .imgreq tid off size => decide (tid < 2 ^ 32) && decide (off < 2 ^ 32) && decide (size < 2 ^ 32)
  | .xferStart tid decl => decide (tid < 2 ^ 32) && decide (decl < 2 ^ 32)
  | .xferRecv tid len => decide (tid < 2 ^ 32) && decide (len < 65536)
  | .val vin => decide (vin < 2 ^ 32)

end Sys2Proof
end

