-- ==== Sys2Proof/Decode.lean ====
section
/-! DEFINITION. Command words: the decoder, total on every word and rejecting by name (30_encoding.md R80–R86), the opcode
map as data (R83), and the encoder. -/

namespace Sys2Proof

/-! ### Fields of a command word, 30_encoding.md R80 -/

/-- OP = w[31:24]. -/
def opField (w : Word) : Byte := w.extractLsb' 24 8

/-- RES = w[23:16], which must be 0 in every command. -/
def resField (w : Word) : Byte := w.extractLsb' 16 8

/-- OPND = w[15:0]. -/
def opndField (w : Word) : Half := w.extractLsb' 0 16

/-! ### Operand layouts, 30_encoding.md R82 -/

/-- Layout `none`: OPND must be 0. -/
def layoutNone (i : Instr) (x : Half) : Except DecodeError Instr :=
  if x = 0#16 then .ok i else .error .operandBits

/-- Layouts `b8` and `n8`: the value is OPND[7:0], and OPND[15:8] must be 0. -/
def layoutByte (f : Byte → Instr) (x : Half) : Except DecodeError Instr :=
  if x.extractLsb' 8 8 = 0#8 then .ok (f (x.extractLsb' 0 8)) else .error .operandBits

/-- Layouts `m1` and `a1`: the value is OPND[0], and OPND[15:1] must be 0. -/
def layoutBit (f : Bool → Instr) (x : Half) : Except DecodeError Instr :=
  if x.extractLsb' 1 15 = 0#15 then .ok (f (x.getLsbD 0)) else .error .operandBits

/-- Layout `loc8n8`: loc = OPND[15:8], n = OPND[7:0]. -/
def layoutLocN (f : Byte → Byte → Instr) (x : Half) : Except DecodeError Instr :=
  .ok (f (x.extractLsb' 8 8) (x.extractLsb' 0 8))

/-- Layout `len16`: len = OPND[15:0]. -/
def layoutLen (f : Half → Instr) (x : Half) : Except DecodeError Instr := .ok (f x)

/-- Layout `m1`: 0 = TCP, 1 = UDP. -/
def transportOfBit (m : Bool) : Transport := if m then .udp else .tcp

/-- The bit of layout `m1` that stands for a transport. -/
def bitOfTransport : Transport → Bool
  | .tcp => false
  | .udp => true

/-! ### The decoder, 30_encoding.md R83, R84 -/

/-- The opcode map of R83 by OP: how each opcode's command reads its operand. No other value of OP is in the map (R86). -/
def decodeOp (op : Nat) : Option (Half → Except DecodeError Instr) :=
  match op with
  | 0x00 => some (layoutNone .nop)
  | 0x01 => some (layoutNone .srst)
  | 0x10 => some (layoutNone .crcInit)
  | 0x11 => some (layoutByte .crcByte)
  | 0x20 => some (layoutBit fun m => .prsStart (transportOfBit m))
  | 0x21 => some (layoutByte .prsByte)
  | 0x22 => some (layoutNone .prsEnd)
  | 0x30 => some (layoutBit .bldIdack)
  | 0x31 => some (layoutByte .bldTcpack)
  | 0x32 => some (layoutLocN .bldUdpack)
  | 0x33 => some (layoutNone .bldImgreq)
  | 0x40 => some (layoutNone .xferInit)
  | 0x41 => some (layoutLen .xferChunk)
  | 0x50 => some (layoutNone .valCheck)
  | _ => none

/-- 30_encoding.md R84, R85: every 32-bit word is exactly one command, or illegal for one of three named reasons. -/
def decode (w : Word) : Except DecodeError Instr :=
  match decodeOp (opField w).toNat with
  | none => .error .unknownOpcode
  | some layout => if resField w = 0#8 then layout (opndField w) else .error .reservedBits

/-- The instruction the decoder reads from a word given as the low `nbits` bits of `w` (the table gives every row 32). -/
def decodeTableWord (nbits w : Nat) : Option Instr :=
  match decode (BitVec.ofNat 32 (w % 2 ^ nbits)) with
  | .ok i => some i
  | .error _ => none

/-! ### The opcode map as match and mask, 30_encoding.md R83 -/

/-- The rows of R83 in the table's order: w is the row's command when (w AND mask) = match. -/
def opcodeTable : List OpcodeRow :=
  [⟨"NOP", 0x00000000#32, 0xFFFFFFFF#32⟩,
   ⟨"SRST", 0x01000000#32, 0xFFFFFFFF#32⟩,
   ⟨"CRC.INIT", 0x10000000#32, 0xFFFFFFFF#32⟩,
   ⟨"CRC.BYTE", 0x11000000#32, 0xFFFFFF00#32⟩,
   ⟨"PRS.START", 0x20000000#32, 0xFFFFFFFE#32⟩,
   ⟨"PRS.BYTE", 0x21000000#32, 0xFFFFFF00#32⟩,
   ⟨"PRS.END", 0x22000000#32, 0xFFFFFFFF#32⟩,
   ⟨"BLD.IDACK", 0x30000000#32, 0xFFFFFFFE#32⟩,
   ⟨"BLD.TCPACK", 0x31000000#32, 0xFFFFFF00#32⟩,
   ⟨"BLD.UDPACK", 0x32000000#32, 0xFFFF0000#32⟩,
   ⟨"BLD.IMGREQ", 0x33000000#32, 0xFFFFFFFF#32⟩,
   ⟨"XFER.INIT", 0x40000000#32, 0xFFFFFFFF#32⟩,
   ⟨"XFER.CHUNK", 0x41000000#32, 0xFFFF0000#32⟩,
   ⟨"VAL.CHECK", 0x50000000#32, 0xFFFFFFFF#32⟩]

/-- The mnemonic of an instruction's row in R83. -/
def Instr.mnemonic : Instr → String
  | .nop => "NOP"
  | .srst => "SRST"
  | .crcInit => "CRC.INIT"
  | .crcByte _ => "CRC.BYTE"
  | .prsStart _ => "PRS.START"
  | .prsByte _ => "PRS.BYTE"
  | .prsEnd => "PRS.END"
  | .bldIdack _ => "BLD.IDACK"
  | .bldTcpack _ => "BLD.TCPACK"
  | .bldUdpack _ _ => "BLD.UDPACK"
  | .bldImgreq => "BLD.IMGREQ"
  | .xferInit => "XFER.INIT"
  | .xferChunk _ => "XFER.CHUNK"
  | .valCheck => "VAL.CHECK"

/-! ### The encoder, 30_encoding.md R80, R82, R83 -/

/-- The OP value of an instruction, R83. -/
def Instr.opcode : Instr → Byte
  | .nop => 0x00#8
  | .srst => 0x01#8
  | .crcInit => 0x10#8
  | .crcByte _ => 0x11#8
  | .prsStart _ => 0x20#8
  | .prsByte _ => 0x21#8
  | .prsEnd => 0x22#8
  | .bldIdack _ => 0x30#8
  | .bldTcpack _ => 0x31#8
  | .bldUdpack _ _ => 0x32#8
  | .bldImgreq => 0x33#8
  | .xferInit => 0x40#8
  | .xferChunk _ => 0x41#8
  | .valCheck => 0x50#8

/-- The OPND value of an instruction, by the layouts of R82. -/
def Instr.operand : Instr → Half
  | .nop | .srst | .crcInit | .prsEnd | .bldImgreq | .xferInit | .valCheck => 0#16
  | .crcByte b | .prsByte b => 0#8 ++ b
  | .bldTcpack n => 0#8 ++ n
  | .prsStart m => 0#15 ++ BitVec.ofBool (bitOfTransport m)
  | .bldIdack a => 0#15 ++ BitVec.ofBool a
  | .bldUdpack loc n => loc ++ n
  | .xferChunk len => len

/-- The command word of an instruction: OP ++ RES ++ OPND with RES = 0 (R80). -/
def encode (i : Instr) : Word := i.opcode ++ 0#8 ++ i.operand

end Sys2Proof
end

