-- ==== Sys2Proof/Machine/Operands.lean ====
section
/-! DEFINITION. How words and fields are taken apart and put together: big-endian byte sequences (00_scope.md R8, 20_memory.md
R72), the fields of the operand registers RSZ, VIN and VCFG (10_state.md R36, R42, R43), and the next chunk size
(42_transfer.md R141). -/

namespace Sys2Proof.Machine

/-! ### Big-endian byte sequences -/

/-- `BE_2(v)`: most significant byte first. -/
def be2 (v : Half) : List Byte := [v.extractLsb' 8 8, v.extractLsb' 0 8]

/-- `BE_4(v)`: most significant byte first. -/
def be4 (v : Word) : List Byte :=
  [v.extractLsb' 24 8, v.extractLsb' 16 8, v.extractLsb' 8 8, v.extractLsb' 0 8]

/-- A 16-bit field takes one more byte, big-endian: F <- (F << 8 | b) mod 2^16 (41_frame_parser.md R119). -/
def shiftIn16 (f : Half) (b : Byte) : Half := (f <<< 8) ||| b.setWidth 16

/-- A 32-bit field takes one more byte, big-endian: F <- (F << 8 | b) mod 2^32 (41_frame_parser.md R119). -/
def shiftIn32 (f : Word) (b : Byte) : Word := (f <<< 8) ||| b.setWidth 32

/-! ### RSZ, 10_state.md R36 -/

/-- The writable bits of RSZ: SIZE = v[15:0]. The other bits have no storage. -/
def rszSizeOf (v : Word) : Half := v.extractLsb' 0 16

/-! ### VIN, 10_state.md R42 -/

/-- The writable bits of VIN: all but the reserved [7:4]. -/
def vinMask : Word := 0xFFFFFF0F#32

/-- VIN.VALID. -/
def vinValid (vin : Word) : Bool := vin.getLsbD 0
/-- VIN.HAS_ATTR. -/
def vinHasAttr (vin : Word) : Bool := vin.getLsbD 1
/-- VIN.GPS_PRESENT. -/
def vinGpsPresent (vin : Word) : Bool := vin.getLsbD 2
/-- VIN.SLEEP_PRESENT. -/
def vinSleepPresent (vin : Word) : Bool := vin.getLsbD 3
/-- VIN.SATS. -/
def vinSats (vin : Word) : Byte := vin.extractLsb' 8 8
/-- VIN.GPS_STATUS. -/
def vinGpsStatus (vin : Word) : Byte := vin.extractLsb' 16 8
/-- VIN.SLEEP_MODE. -/
def vinSleepMode (vin : Word) : Byte := vin.extractLsb' 24 8

/-! ### VCFG, 10_state.md R43 -/

/-- The writable bits of VCFG: all but the reserved [31:24]. -/
def vcfgMask : Word := 0x00FFFFFF#32

/-- VCFG.GPS_SLEEP. -/
def vcfgGpsSleep (vcfg : Word) : Byte := vcfg.extractLsb' 0 8
/-- VCFG.SLEEP_A. -/
def vcfgSleepA (vcfg : Word) : Byte := vcfg.extractLsb' 8 8
/-- VCFG.SLEEP_B. -/
def vcfgSleepB (vcfg : Word) : Byte := vcfg.extractLsb' 16 8

/-- The reset value of VCFG: zext_32(SLEEP_CODE_DEEP_RST ++ SLEEP_CODE_GPS_RST ++ GPS_SLEEP_RST) (10_state.md R43). -/
def vcfgReset (c : Config) : Word := 0#8 ++ c.sleepCodeDeepRst ++ c.sleepCodeGpsRst ++ gpsSleepRst

/-! ### The next chunk, 42_transfer.md R141 -/

/-- The slot's remaining capacity, decl − woff, on 32-bit unsigned values. In every state a run reaches woff ≤ decl; elsewhere
the subtraction wraps (DESIGN CHOICE, notes/assumptions/9.md). -/
def remaining (decl woff : Word) : Word := decl - woff

/-- `next_size(decl, woff) = min(CHUNK_MAX, decl − woff)`: at most 2048, so it fits the 16-bit field. -/
def nextSize (decl woff : Word) : Half := BitVec.ofNat 16 (min chunkMax (remaining decl woff).toNat)

end Sys2Proof.Machine
end

