-- ==== Sys2Proof/Machine/Flags.lean ====
section
/-! DEFINITION. The conditions the block's status bits report that are not a stored counter: the validity correction and the
emit decision (45_validity.md R202, R203) and the known-codec test (41_frame_parser.md R110). The block has no arithmetic
flags (10_state.md R49). -/

namespace Sys2Proof.Machine

/-- The GPS-status attribute is present and equals its sleep sentinel. -/
def gpsSleeps (vin vcfg : Word) : Bool :=
  vinGpsPresent vin && vinGpsStatus vin == vcfgGpsSleep vcfg

/-- The sleep-mode attribute is present and equals either of the two sleep codes. -/
def modeSleeps (vin vcfg : Word) : Bool :=
  vinSleepPresent vin && (vinSleepMode vin == vcfgSleepA vcfg || vinSleepMode vin == vcfgSleepB vcfg)

/-- The correction condition `corr` of 45_validity.md R202. -/
def corrected (vin vcfg : Word) : Bool :=
  !vinValid vin && vinSats vin == 0#8 && (gpsSleeps vin vcfg || modeSleeps vin vcfg)

/-- `has_attr` of 45_validity.md R203: a GPS-status or sleep-mode attribute is itself an attribute. -/
def carriesAttributes (vin : Word) : Bool :=
  vinHasAttr vin || vinGpsPresent vin || vinSleepPresent vin

/-- The emit condition of 45_validity.md R203, on the validity before correction. -/
def emits (vin : Word) : Bool := vinValid vin || carriesAttributes vin

/-- b ∈ KNOWN_CODECS (41_frame_parser.md R110). -/
def codecKnown (b : Byte) : Bool := knownCodecs.contains b

end Sys2Proof.Machine
end

