-- ==== Sys2Proof/Machine/CrcEngine.lean ====
section
/-! DEFINITION. The CRC function of 43_crc16.md R160–R162, a function of the CRC parameters, the accumulator and a byte. -/

namespace Sys2Proof.Machine

/-- `reflect16(x)`: x with bit i moved to bit 15 − i (43_crc16.md R160). -/
def reflect16 (x : Half) : Half := x.reverse

/-- One of the eight repetitions of the reflected step: shift right, XOR the reflected polynomial when bit 0 was set. -/
def crcShiftRight (c : Config) (acc : Half) : Half :=
  if acc.getLsbD 0 then (acc >>> 1) ^^^ reflect16 c.crcPoly else acc >>> 1

/-- One of the eight repetitions of the unreflected step: shift left, XOR the polynomial when bit 15 was set. -/
def crcShiftLeft (c : Config) (acc : Half) : Half :=
  if acc.getLsbD 15 then (acc <<< 1) ^^^ c.crcPoly else acc <<< 1

/-- `repeat n times: acc <- f acc`. -/
def repeatTimes (f : Half → Half) : Nat → Half → Half
  | 0, acc => acc
  | n + 1, acc => repeatTimes f n (f acc)

/-- `crc_step(acc, b)`: one byte into the accumulator (43_crc16.md R160). -/
def crcStep (c : Config) (acc : Half) (b : Byte) : Half :=
  if c.crcRefIn then repeatTimes (crcShiftRight c) 8 (acc ^^^ b.setWidth 16)
  else repeatTimes (crcShiftLeft c) 8 (acc ^^^ (b.setWidth 16 <<< 8))

/-- `ACC0`, the accumulator's start value (43_crc16.md R161). -/
def acc0 (c : Config) : Half := if c.crcRefIn then reflect16 c.crcInit else c.crcInit

/-- `crc_final(acc)`, the output of an accumulator (43_crc16.md R161). -/
def crcFinal (c : Config) (acc : Half) : Half :=
  (if c.crcRefIn ≠ c.crcRefOut then reflect16 acc else acc) ^^^ c.crcXorOut

/-- The accumulator after a byte sequence, from a given accumulator: one step per byte, in order. -/
def crcRun (c : Config) (acc : Half) (bytes : List Byte) : Half := bytes.foldl (crcStep c) acc

/-- `crc16(s)`, the CRC of a byte sequence (43_crc16.md R162). -/
def crc16 (c : Config) (bytes : List Byte) : Half := crcFinal c (crcRun c (acc0 c) bytes)

end Sys2Proof.Machine
end

