-- ==== Sys2Proof/Machine/State.lean ====
section
/-! DEFINITION. The state of the block: every register of 10_state.md R21 that has storage (R47), the parameters it runs under,
and the host's side of the bus. There is no memory besides these registers (20_memory.md R60). -/

namespace Sys2Proof.Machine

/-- The outcome a command leaves in STATUS.ERR: OK or an error of 60_exceptions.md R230. Codes 7–15 are never reported, and
cannot be written down here. -/
inductive Err
  | ok
  | truncated
  | unsupportedCodec
  | unknownTransfer
  | capacityExceeded
  | illegalCommand
  | parserClosed
  deriving DecidableEq, Repr

/-- PSTAT.PST, the parser's state (10_state.md R27). Values 14 and 15 are never held. -/
inductive ParserState
  | idle | tLead | tId | tMark | tDlen | uHdr | uIdlen | uId | bCodec | bCount | bBody | hDone | closed | error
  deriving DecidableEq, Repr

/-- PSTAT.KIND, the frame kind (10_state.md R26). Value 3 is never held. -/
inductive FrameKind
  | none | handshake | data
  deriving DecidableEq, Repr

/-- PSTAT.PERR, the parser's sticky error (10_state.md R26). Values 3–15 are never held. -/
inductive ParserError
  | none | truncated | unsupportedCodec
  deriving DecidableEq, Repr

/-- The frame parser's registers: PSTAT, PHDR0, PHDR1, PBLK, PPOS, PBOFF and PDLEN (10_state.md R26–R33). -/
structure Parser where
  /-- PSTAT.PST -/
  pst : ParserState
  /-- PSTAT.MODE -/
  mode : Transport
  /-- PSTAT.KIND -/
  kind : FrameKind
  /-- PSTAT.PERR -/
  perr : ParserError
  /-- PSTAT.PK, the byte index within the current multi-byte field -/
  pk : BitVec 4
  /-- PSTAT.PREM, identifier bytes still to come -/
  prem : Half
  /-- PHDR0.LEN16 -/
  len16 : Half
  /-- PHDR0.PKTID -/
  pktid : Half
  /-- PHDR1.PTYPE -/
  ptype : Byte
  /-- PHDR1.LOCID -/
  locid : Byte
  /-- PHDR1.IDLEN -/
  idlen : Half
  /-- PBLK.CODEC -/
  codec : Byte
  /-- PBLK.NREC -/
  nrec : Byte
  /-- PBLK.HAVE_CODEC -/
  haveCodec : Bool
  /-- PBLK.HAVE_COUNT -/
  haveCount : Bool
  /-- PPOS, bytes consumed since the last PRS.START, mod 2^32 -/
  ppos : Word
  /-- PBOFF, the frame offset of the first body byte -/
  pboff : Word
  /-- PDLEN, the TCP data-length word -/
  pdlen : Word
  deriving DecidableEq, Repr

/-- The parser's registers all zero: no frame open (10_state.md R21). -/
def Parser.cleared : Parser where
  pst := .idle
  mode := .tcp
  kind := .none
  perr := .none
  pk := 0#4
  prem := 0#16
  len16 := 0#16
  pktid := 0#16
  ptype := 0#8
  locid := 0#8
  idlen := 0#16
  codec := 0#8
  nrec := 0#8
  haveCodec := false
  haveCount := false
  ppos := 0#32
  pboff := 0#32
  pdlen := 0#32

/-- The transfer slot: XSTAT, XTID, XDECL and XWOFF (10_state.md R38–R41). -/
structure Slot where
  /-- XSTAT.ACTIVE -/
  active : Bool
  /-- XSTAT.COMPLETE -/
  complete : Bool
  /-- XTID -/
  xtid : Word
  /-- XDECL -/
  xdecl : Word
  /-- XWOFF -/
  xwoff : Word
  deriving DecidableEq, Repr

/-- The slot free (10_state.md R21, 70_reset_and_hazards.md R261). -/
def Slot.free : Slot := ⟨false, false, 0#32, 0#32, 0#32⟩

/-- VOUT, the outputs of the last VAL.CHECK (10_state.md R44). -/
structure Verdict where
  /-- VOUT.VALID -/
  valid : Bool
  /-- VOUT.EMIT -/
  emit : Bool
  /-- VOUT.CORRECTED -/
  corrected : Bool
  deriving DecidableEq, Repr

/-- The whole machine: the parameters, the block's registers, and the host's side of the bus. -/
structure State where
  /-- The implementation parameters (00_scope.md R6). Not the block's state but an argument of its step relation (10_state.md
  R47): no step writes it (notes/assumptions/2.md). -/
  cfg : Config
  /-- STATUS.ERR (10_state.md R23). -/
  err : Err
  /-- CRCACC.ACC (10_state.md R24). CRCVAL has no storage (R25). -/
  acc : Half
  /-- PSTAT, PHDR0, PHDR1, PBLK, PPOS, PBOFF, PDLEN. -/
  prs : Parser
  /-- TID (10_state.md R34). -/
  tid : Word
  /-- OFF (10_state.md R35). -/
  off : Word
  /-- RSZ.SIZE (10_state.md R36). RSZ[31:16] has no storage and reads 0. -/
  size : Half
  /-- DECL (10_state.md R37). -/
  decl : Word
  /-- XSTAT, XTID, XDECL, XWOFF. -/
  slot : Slot
  /-- VIN (10_state.md R42). -/
  vin : Word
  /-- VCFG (10_state.md R43). -/
  vcfg : Word
  /-- VOUT. -/
  vout : Verdict
  /-- TXLEN.LEN (10_state.md R45). -/
  txLen : BitVec 6
  /-- TX[0..31] (10_state.md R46). -/
  tx : Vector Byte 32
  /-- The model's own: what the host and the platform do next, oldest first (notes/assumptions/1.md). -/
  pending : List Event
  /-- The model's own: the words the host's reads have returned, newest first (notes/assumptions/1.md). -/
  answers : List Word
  deriving DecidableEq, Repr

/-- Why a step stops with a fault. -/
inductive Fault
  /-- Raised by a host access to the window that 20_memory.md R62 does not admit: not 32 bits wide, or at an offset that is not
  a multiple of 4. R63 asks for exactly this: a bus error, the block's state unchanged, no value. Safe: the model stops where
  the hardware goes on after the platform has delivered the error. -/
  | busError
  /-- Raised by a host access at an offset of 256 or more: no address of the window (20_memory.md R60). Safe: the access never
  reaches the block. -/
  | outsideWindow
  deriving DecidableEq, Repr

/-- Why a step is refused. -/
inductive Refusal
  /-- Raised by no arm of this model: every command has its meaning. Safe. -/
  | notModelled (mnemonic : String)
  /-- Raised by every step under parameters outside 00_scope.md R7, which says that a model must refuse such a value and not
  interpret it. Safe: no behaviour is claimed. -/
  | badConfiguration
  deriving DecidableEq, Repr

/-- The state after power-on reset under the parameters `c`, with nothing asked of the block yet: every register with storage
at its reset value of 10_state.md R21 (70_reset_and_hazards.md R260, R261). -/
def State.powerOn (c : Config) : State where
  cfg := c
  err := .ok
  acc := acc0 c
  prs := Parser.cleared
  tid := 0#32
  off := 0#32
  size := 0#16
  decl := 0#32
  slot := Slot.free
  vin := 0#32
  vcfg := vcfgReset c
  vout := ⟨false, false, false⟩
  txLen := 0#6
  tx := Vector.replicate 32 0#8
  pending := []
  answers := []

/-- The machine right after reset, under the default parameters of 00_scope.md R6 with the OPEN ones left open. -/
def State.reset : State := State.powerOn Config.default

end Sys2Proof.Machine
end

