-- ==== Sys2Proof/Machine/Ops.lean ====
section
/-! DEFINITION. The operations the commands share: the two command outcomes of 00_scope.md R11, reset, writing a frame into
TXBUF (44_frame_builder.md R180), and the image request (R184–R186). -/

namespace Sys2Proof.Machine

/-! ### Command outcomes, 00_scope.md R11 -/

/-- `ok`: STATUS.ERR <- 0. -/
def State.ok (s : State) : State := { s with err := .ok }

/-- `raise E`: STATUS.ERR <- code(E), and nothing else. There is no trap, no saved register, no vector and no return
(60_exceptions.md R233, R236), so this is all there is to taking an error. -/
def State.raise (e : Err) (s : State) : State := { s with err := e }

/-! ### Reset, 70_reset_and_hazards.md R260 -/

/-- Every register with storage at its reset value (46_system.md R221). The parameters and the host's side of the bus are no
registers of the block and stay (notes/assumptions/13.md). -/
def State.resetRegisters (s : State) : State :=
  { State.powerOn s.cfg with pending := s.pending, answers := s.answers }

/-! ### The outbound frame buffer, 44_frame_builder.md R180 -/

/-- The 32 bytes of TXBUF that hold frame `f`: its bytes from TX[0] on, and 0 at and beyond its length. -/
def txOfFrame (f : List Byte) : Vector Byte 32 := Vector.ofFn fun i => f.getD i.val 0#8

/-- A build: TXBUF cleared, the frame's bytes written, TXLEN.LEN set to its length (R180). -/
def State.setFrame (f : List Byte) (s : State) : State :=
  { s with tx := txOfFrame f, txLen := BitVec.ofNat 6 f.length }

/-! ### The image chunk request, 44_frame_builder.md R184–R186 -/

/-- The first 29 bytes of the image request, field by field (R184, R186). -/
def imgreqBody (tid off : Word) (size : Half) : List Byte :=
  be4 0#32 ++ be2 0#16 ++ be2 19#16 ++ [serialCodec, 0x01#8, 0x0D#8] ++ be4 11#32 ++ [0x02#8]
    ++ be4 tid ++ be4 off ++ be2 size ++ [0x01#8] ++ be2 0#16

/-- The bytes the CRC covers: frame bytes 8 to CRC_REGION_LAST inclusive (R185). -/
def crcRegion (c : Config) (frame : List Byte) : List Byte := (frame.take (c.crcRegionLast + 1)).drop 8

/-- The accumulator over the image request's CRC region (R186). -/
def imgreqAcc (c : Config) (tid off : Word) (size : Half) : Half :=
  crcRun c (acc0 c) (crcRegion c (imgreqBody tid off size))

/-- The whole 31-byte image request: the body and its CRC, most significant byte first (R186, R188). -/
def imgreqFrame (c : Config) (tid off : Word) (size : Half) : List Byte :=
  imgreqBody tid off size ++ be2 (crcFinal c (imgreqAcc c tid off size))

/-- `build_imgreq(tid, off, size)`: TXBUF, TXLEN = 31, and the frame's accumulator left in CRCACC (R186). -/
def State.buildImgreq (tid off : Word) (size : Half) (s : State) : State :=
  { s.setFrame (imgreqFrame s.cfg tid off size) with acc := imgreqAcc s.cfg tid off size }

/-- Build the request for a transfer's next chunk: OFF and RSZ.SIZE take the request's offset and size (42_transfer.md R142,
R143), and the request is built. -/
def State.requestChunk (tid off : Word) (size : Half) (s : State) : State :=
  State.buildImgreq tid off size { s with off := off, size := size }

end Sys2Proof.Machine
end

