-- ==== Sys2Proof/Machine/Builder.lean ====
section
/-! DEFINITION. The outbound frame builder: BLD.IDACK, BLD.TCPACK, BLD.UDPACK and BLD.IMGREQ (44_frame_builder.md R181–R187). -/

namespace Sys2Proof.Machine

/-- The TCP identification ack: one byte, 1 = accepted, 0 = rejected (44_frame_builder.md R181). -/
def idackFrame (a : Bool) : List Byte := [(BitVec.ofBool a).setWidth 8]

/-- The TCP data ack: the record count as 4 bytes, big-endian (44_frame_builder.md R182). -/
def tcpackFrame (n : Byte) : List Byte := be4 (n.setWidth 32)

/-- The UDP data ack: BE_2(5) ++ BE_2(0) ++ 01, loc, n (44_frame_builder.md R183). -/
def udpackFrame (loc n : Byte) : List Byte := be2 5#16 ++ be2 0#16 ++ [0x01#8, loc, n]

/-- BLD.IDACK a (44_frame_builder.md R181). -/
def execBldIdack (a : Bool) (s : State) : Host.Outcome State Fault Refusal := .next (s.ok.setFrame (idackFrame a))

/-- BLD.TCPACK n (44_frame_builder.md R182). -/
def execBldTcpack (n : Byte) (s : State) : Host.Outcome State Fault Refusal := .next (s.ok.setFrame (tcpackFrame n))

/-- BLD.UDPACK loc, n (44_frame_builder.md R183). -/
def execBldUdpack (loc n : Byte) (s : State) : Host.Outcome State Fault Refusal :=
  .next (s.ok.setFrame (udpackFrame loc n))

/-- BLD.IMGREQ (44_frame_builder.md R187): build_imgreq(TID, OFF, RSZ.SIZE); ok. The slot is not consulted. -/
def execBldImgreq (s : State) : Host.Outcome State Fault Refusal :=
  .next (s.ok.buildImgreq s.tid s.off s.size)

end Sys2Proof.Machine
end

