-- ==== Sys2Proof/Machine/Control.lean ====
section
/-! DEFINITION. The control commands NOP and SRST (46_system.md R220, R221). -/

namespace Sys2Proof.Machine

/-- NOP (46_system.md R220): `ok`. -/
def execNop (s : State) : Host.Outcome State Fault Refusal := .next s.ok

/-- SRST (46_system.md R221): every register with storage <- its reset value; STATUS.ERR ends at 0. -/
def execSrst (s : State) : Host.Outcome State Fault Refusal := .next s.resetRegisters

end Sys2Proof.Machine
end

