-- ==== Sys2Proof/Machine/Crc.lean ====
section
/-! DEFINITION. The CRC engine's commands CRC.INIT and CRC.BYTE (43_crc16.md R163, R164). -/

namespace Sys2Proof.Machine

/-- CRC.INIT (43_crc16.md R163): CRCACC.ACC <- ACC0; ok. -/
def execCrcInit (s : State) : Host.Outcome State Fault Refusal :=
  .next { s.ok with acc := acc0 s.cfg }

/-- CRC.BYTE b (43_crc16.md R164): CRCACC.ACC <- crc_step(CRCACC.ACC, b); ok. -/
def execCrcByte (b : Byte) (s : State) : Host.Outcome State Fault Refusal :=
  .next { s.ok with acc := crcStep s.cfg s.acc b }

end Sys2Proof.Machine
end

