-- ==== Sys2Proof/Machine/FrameParser.lean ====
section
/-! DEFINITION. The frame parser: one function per parser state of 41_frame_parser.md R103–R113, and the commands PRS.START,
PRS.BYTE and PRS.END (R101, R102, R114). They touch the parser's registers and STATUS.ERR only (R100). -/

namespace Sys2Proof.Machine

/-- The states in which no frame is open: PRS.BYTE and PRS.END raise PARSER_CLOSED (41_frame_parser.md R122). -/
def parserClosed : ParserState → Bool
  | .idle | .closed | .error => true
  | .tLead | .tId | .tMark | .tDlen | .uHdr | .uIdlen | .uId | .bCodec | .bCount | .bBody | .hDone => false

/-- The accepting states, in which PRS.END succeeds (41_frame_parser.md R115). -/
def parserAccepting : ParserState → Bool
  | .bBody | .hDone => true
  | .idle | .tLead | .tId | .tMark | .tDlen | .uHdr | .uIdlen | .uId | .bCodec | .bCount | .closed | .error => false

/-- PRS.START m (41_frame_parser.md R101): the parser's registers with a frame of transport m just opened. -/
def parserStart : Transport → Parser
  | .tcp => { Parser.cleared with mode := .tcp, pst := .tLead, kind := .none }
  | .udp => { Parser.cleared with mode := .udp, pst := .uHdr, kind := .data }

/-- T_LEAD (41_frame_parser.md R103): the leading 16-bit field, whose value tells a handshake from a data frame. -/
def byteLead (b : Byte) (p : Parser) : Parser :=
  let len := shiftIn16 p.len16 b
  if p.pk = 0#4 then { p with len16 := len, pk := 1#4 }
  else if len ≠ 0#16 then
    { p with len16 := len, pk := 0#4, kind := .handshake, idlen := len, prem := len, pst := .tId }
  else { p with len16 := len, pk := 0#4, kind := .data, pst := .tMark }

/-- T_ID (41_frame_parser.md R104): an identifier byte of a handshake, counted and not stored. -/
def byteId (p : Parser) : Parser :=
  let rem := p.prem - 1#16
  if rem = 0#16 then { p with prem := rem, pst := .hDone } else { p with prem := rem }

/-- T_MARK (41_frame_parser.md R105): bytes 2 and 3 of the legacy marker, skipped unchecked. -/
def byteMark (c : Config) (p : Parser) : Parser :=
  if p.pk = 0#4 then { p with pk := 1#4 }
  else { p with pk := 0#4, pst := if c.tcpDataLenBytes = 4 then .tDlen else .bCodec }

/-- T_DLEN (41_frame_parser.md R106): the TCP data-length word, recorded and never checked. -/
def byteDlen (b : Byte) (p : Parser) : Parser :=
  let len := shiftIn32 p.pdlen b
  let k := p.pk + 1#4
  if k = 4#4 then { p with pdlen := len, pk := 0#4, pst := .bCodec } else { p with pdlen := len, pk := k }

/-- The header field that byte k of the UDP header belongs to takes it (41_frame_parser.md R107). -/
def headerField (k : BitVec 4) (b : Byte) (p : Parser) : Parser :=
  if k = 0#4 ∨ k = 1#4 then { p with len16 := shiftIn16 p.len16 b }
  else if k = 2#4 ∨ k = 3#4 then { p with pktid := shiftIn16 p.pktid b }
  else if k = 4#4 then { p with ptype := b }
  else if k = 5#4 then { p with locid := b }
  else p

/-- U_HDR (41_frame_parser.md R107): the 6-byte UDP header, recorded and never checked. -/
def byteHeader (b : Byte) (p : Parser) : Parser :=
  let q := headerField p.pk b p
  if p.pk < 5#4 then { q with pk := p.pk + 1#4 } else { q with pk := 0#4, pst := .uIdlen }

/-- U_IDLEN (41_frame_parser.md R108): the UDP identifier's 16-bit length prefix. -/
def byteIdLen (b : Byte) (p : Parser) : Parser :=
  let len := shiftIn16 p.idlen b
  if p.pk = 0#4 then { p with idlen := len, pk := 1#4 }
  else if len = 0#16 then { p with idlen := len, pk := 0#4, pst := .bCodec }
  else { p with idlen := len, pk := 0#4, prem := len, pst := .uId }

/-- U_ID (41_frame_parser.md R109): an identifier byte of a UDP frame, counted and not stored. -/
def byteUdpId (p : Parser) : Parser :=
  let rem := p.prem - 1#16
  if rem = 0#16 then { p with prem := rem, pst := .bCodec } else { p with prem := rem }

/-- B_CODEC (41_frame_parser.md R110): the codec identifier; an unknown one fails the frame. -/
def byteCodec (b : Byte) (p : Parser) : Parser × Err :=
  let q := { p with codec := b, haveCodec := true }
  if codecKnown b then ({ q with pst := .bCount }, .ok)
  else ({ q with perr := .unsupportedCodec, pst := .error }, .unsupportedCodec)

/-- B_COUNT (41_frame_parser.md R111): the record count; PPOS, already advanced, is the first body byte's offset. -/
def byteCount (b : Byte) (p : Parser) : Parser :=
  { p with nrec := b, haveCount := true, pboff := p.ppos, pst := .bBody }

/-- PRS.BYTE b in the parser's own terms (41_frame_parser.md R102): in a closed state nothing but PARSER_CLOSED; otherwise PPOS
advances mod 2^32 and the state's rule R103–R113 applies. -/
def parserByte (c : Config) (b : Byte) (p : Parser) : Parser × Err :=
  let q := { p with ppos := p.ppos + 1#32 }
  match p.pst with
  | .idle => (p, .parserClosed)
  | .tLead => (byteLead b q, .ok)
  | .tId => (byteId q, .ok)
  | .tMark => (byteMark c q, .ok)
  | .tDlen => (byteDlen b q, .ok)
  | .uHdr => (byteHeader b q, .ok)
  | .uIdlen => (byteIdLen b q, .ok)
  | .uId => (byteUdpId q, .ok)
  | .bCodec => byteCodec b q
  | .bCount => (byteCount b q, .ok)
  | .bBody => (q, .ok)
  | .hDone => (q, .ok)
  | .closed => (p, .parserClosed)
  | .error => (p, .parserClosed)

/-- PRS.END in the parser's own terms (41_frame_parser.md R114): CLOSED from an accepting state, PARSER_CLOSED when no frame is
open, TRUNCATED when a framing field is unfinished. -/
def parserEnd (p : Parser) : Parser × Err :=
  if parserClosed p.pst then (p, .parserClosed)
  else if parserAccepting p.pst then ({ p with pst := .closed }, .ok)
  else ({ p with perr := .truncated, pk := 0#4, prem := 0#16, pst := .error }, .truncated)

/-- The command's outcome from the parser's: the parser's registers and STATUS.ERR, nothing else (41_frame_parser.md R100). -/
def State.withParser (r : Parser × Err) (s : State) : State := { s with prs := r.1, err := r.2 }

/-- PRS.START m (41_frame_parser.md R101): legal in every parser state, and it abandons a frame in progress. -/
def execPrsStart (m : Transport) (s : State) : Host.Outcome State Fault Refusal :=
  .next (s.withParser (parserStart m, .ok))

/-- PRS.BYTE b (41_frame_parser.md R102). -/
def execPrsByte (b : Byte) (s : State) : Host.Outcome State Fault Refusal :=
  .next (s.withParser (parserByte s.cfg b s.prs))

/-- PRS.END (41_frame_parser.md R114). -/
def execPrsEnd (s : State) : Host.Outcome State Fault Refusal :=
  .next (s.withParser (parserEnd s.prs))

end Sys2Proof.Machine
end

