-- ==== Sys2Proof/Machine/Transfer.lean ====
section
/-! DEFINITION. The image-transfer sequencer: XFER.INIT and XFER.CHUNK (42_transfer.md R142–R144). -/

namespace Sys2Proof.Machine

/-- XFER.INIT (42_transfer.md R142): the slot takes TID and DECL at write offset 0, replacing any transfer it held, and the
first request is built. -/
def execXferInit (s : State) : Host.Outcome State Fault Refusal :=
  let slot : Slot := ⟨true, false, s.tid, s.decl, 0#32⟩
  .next (State.requestChunk s.tid 0#32 (nextSize s.decl 0#32) { s.ok with slot := slot })

/-- The slot after a chunk of `len` bytes was counted (42_transfer.md R143, R144). -/
def slotAdvanced (len : Half) (x : Slot) : Slot :=
  let woff := x.xwoff + len.setWidth 32
  if woff = x.xdecl then { x with xwoff := woff, active := false, complete := true } else { x with xwoff := woff }

/-- XFER.CHUNK len once the chunk is accepted (42_transfer.md R143): on completion TXBUF is cleared and no request is built;
otherwise the next request is. -/
def chunkAccepted (len : Half) (s : State) : State :=
  let slot := slotAdvanced len s.slot
  if slot.xwoff = slot.xdecl then State.setFrame [] { s.ok with slot := slot }
  else State.requestChunk slot.xtid slot.xwoff (nextSize slot.xdecl slot.xwoff) { s.ok with slot := slot }

/-- XFER.CHUNK len (42_transfer.md R143): UNKNOWN_TRANSFER comes before CAPACITY_EXCEEDED (60_exceptions.md R234), and either
changes nothing but STATUS.ERR. -/
def execXferChunk (len : Half) (s : State) : Host.Outcome State Fault Refusal :=
  .next (if s.slot.active = false ∨ s.tid ≠ s.slot.xtid then s.raise .unknownTransfer
    else if remaining s.slot.xdecl s.slot.xwoff < len.setWidth 32 then s.raise .capacityExceeded
    else chunkAccepted len s)

end Sys2Proof.Machine
end

