-- ==== Sys2Proof/Machine/Validity.lean ====
section
/-! DEFINITION. The validity checker: VAL.CHECK (45_validity.md R202–R204). -/

namespace Sys2Proof.Machine

/-- The verdict on a record (45_validity.md R204): a function of VIN and VCFG and nothing else (R200). -/
def verdictOf (vin vcfg : Word) : Verdict where
  valid := vinValid vin || corrected vin vcfg
  emit := emits vin
  corrected := corrected vin vcfg

/-- VAL.CHECK (45_validity.md R204): VOUT takes the verdict on VIN under VCFG; ok. -/
def execValCheck (s : State) : Host.Outcome State Fault Refusal :=
  .next { s.ok with vout := verdictOf s.vin s.vcfg }

end Sys2Proof.Machine
end

