-- ==== Sys2Proof/Machine/Dispatch.lean ====
section
/-! DEFINITION. One arm per command of 30_encoding.md R83, each one direct call of its meaning. -/

namespace Sys2Proof.Machine

def exec (i : Instr) (s : State) : Host.Outcome State Fault Refusal :=
  match i with
  | .nop => Sys2Proof.Machine.execNop s
  | .srst => Sys2Proof.Machine.execSrst s
  | .crcInit => Sys2Proof.Machine.execCrcInit s
  | .crcByte b => Sys2Proof.Machine.execCrcByte b s
  | .prsStart m => Sys2Proof.Machine.execPrsStart m s
  | .prsByte b => Sys2Proof.Machine.execPrsByte b s
  | .prsEnd => Sys2Proof.Machine.execPrsEnd s
  | .bldIdack a => Sys2Proof.Machine.execBldIdack a s
  | .bldTcpack n => Sys2Proof.Machine.execBldTcpack n s
  | .bldUdpack loc n => Sys2Proof.Machine.execBldUdpack loc n s
  | .bldImgreq => Sys2Proof.Machine.execBldImgreq s
  | .xferInit => Sys2Proof.Machine.execXferInit s
  | .xferChunk len => Sys2Proof.Machine.execXferChunk len s
  | .valCheck => Sys2Proof.Machine.execValCheck s

end Sys2Proof.Machine
end

