-- ==== Sys2Proof/Machine/Window.lean ====
section
/-! DEFINITION. The register window: the map of 10_state.md R21, what a read of each register returns (R22–R46) and what a write
stores (20_memory.md R64–R67). -/

namespace Sys2Proof.Machine

/-! ### The register map, 10_state.md R21 -/

/-- The window offset of a register. -/
def regOffset : Reg → Nat
  | .cmd => 0x00
  | .status => 0x04
  | .crcacc => 0x08
  | .crcval => 0x0C
  | .pstat => 0x10
  | .phdr0 => 0x14
  | .phdr1 => 0x18
  | .pblk => 0x1C
  | .ppos => 0x20
  | .pboff => 0x24
  | .pdlen => 0x28
  | .tid => 0x30
  | .off => 0x34
  | .rsz => 0x38
  | .decl => 0x3C
  | .xstat => 0x40
  | .xtid => 0x44
  | .xdecl => 0x48
  | .xwoff => 0x4C
  | .vin => 0x50
  | .vcfg => 0x54
  | .vout => 0x58
  | .txlen => 0x5C
  | .txbuf k => 0x80 + 4 * k.val

/-- The register at a window offset: none at the unmapped offsets 0x2C, 0x60–0x7C and 0xA0–0xFC (20_memory.md R67). -/
def regAt (off : Nat) : Option Reg :=
  match off with
  | 0x00 => some .cmd
  | 0x04 => some .status
  | 0x08 => some .crcacc
  | 0x0C => some .crcval
  | 0x10 => some .pstat
  | 0x14 => some .phdr0
  | 0x18 => some .phdr1
  | 0x1C => some .pblk
  | 0x20 => some .ppos
  | 0x24 => some .pboff
  | 0x28 => some .pdlen
  | 0x30 => some .tid
  | 0x34 => some .off
  | 0x38 => some .rsz
  | 0x3C => some .decl
  | 0x40 => some .xstat
  | 0x44 => some .xtid
  | 0x48 => some .xdecl
  | 0x4C => some .xwoff
  | 0x50 => some .vin
  | 0x54 => some .vcfg
  | 0x58 => some .vout
  | 0x5C => some .txlen
  | 0x80 => some (.txbuf 0)
  | 0x84 => some (.txbuf 1)
  | 0x88 => some (.txbuf 2)
  | 0x8C => some (.txbuf 3)
  | 0x90 => some (.txbuf 4)
  | 0x94 => some (.txbuf 5)
  | 0x98 => some (.txbuf 6)
  | 0x9C => some (.txbuf 7)
  | _ => none

/-- The window holds 256 bytes (20_memory.md R60). -/
def windowSize : Nat := 256

/-- The only access the block admits is a 32-bit one at an offset of the window that is a multiple of 4
(20_memory.md R62). -/
def admitted (off size : Nat) : Bool :=
  size == 4 && off % 4 == 0 && decide (off < windowSize)

/-- The host address BASE + off of a window offset (00_scope.md R10, 20_memory.md R60). -/
def hostAddress (c : Config) (off : Nat) : Nat := c.base + off

/-- The window offset of a host address, if the address lies in the window BASE..BASE + 0xFF (20_memory.md R60). -/
def windowOffset (c : Config) (addr : Nat) : Option Nat :=
  if c.base ≤ addr ∧ addr < c.base + windowSize then some (addr - c.base) else none

/-! ### Field encodings -/

/-- The code of an outcome, STATUS.ERR (60_exceptions.md R230). -/
def errCode : Err → BitVec 4
  | .ok => 0#4
  | .truncated => 1#4
  | .unsupportedCodec => 2#4
  | .unknownTransfer => 3#4
  | .capacityExceeded => 4#4
  | .illegalCommand => 5#4
  | .parserClosed => 6#4

/-- PSTAT.PST (10_state.md R27). -/
def pstCode : ParserState → BitVec 4
  | .idle => 0#4
  | .tLead => 1#4
  | .tId => 2#4
  | .tMark => 3#4
  | .tDlen => 4#4
  | .uHdr => 5#4
  | .uIdlen => 6#4
  | .uId => 7#4
  | .bCodec => 8#4
  | .bCount => 9#4
  | .bBody => 10#4
  | .hDone => 11#4
  | .closed => 12#4
  | .error => 13#4

/-- PSTAT.KIND (10_state.md R26). -/
def kindCode : FrameKind → BitVec 2
  | .none => 0#2
  | .handshake => 1#2
  | .data => 2#2

/-- PSTAT.PERR (10_state.md R26). -/
def perrCode : ParserError → BitVec 4
  | .none => 0#4
  | .truncated => 1#4
  | .unsupportedCodec => 2#4

/-- PSTAT.MODE (10_state.md R26): 0 = TCP, 1 = UDP. -/
def modeCode : Transport → BitVec 1
  | .tcp => 0#1
  | .udp => 1#1

/-! ### What a register reads as; reserved bits read 0 (20_memory.md R64) -/

/-- PSTAT (10_state.md R26). -/
def pstatWord (p : Parser) : Word :=
  p.prem ++ p.pk ++ perrCode p.perr ++ 0#1 ++ kindCode p.kind ++ modeCode p.mode ++ pstCode p.pst

/-- PHDR0 (10_state.md R28). -/
def phdr0Word (p : Parser) : Word := p.pktid ++ p.len16

/-- PHDR1 (10_state.md R29). -/
def phdr1Word (p : Parser) : Word := p.idlen ++ p.locid ++ p.ptype

/-- PBLK (10_state.md R30). -/
def pblkWord (p : Parser) : Word :=
  0#14 ++ BitVec.ofBool p.haveCount ++ BitVec.ofBool p.haveCodec ++ p.nrec ++ p.codec

/-- XSTAT (10_state.md R38). -/
def xstatWord (x : Slot) : Word := 0#30 ++ BitVec.ofBool x.complete ++ BitVec.ofBool x.active

/-- VOUT (10_state.md R44). -/
def voutWord (v : Verdict) : Word :=
  0#29 ++ BitVec.ofBool v.corrected ++ BitVec.ofBool v.emit ++ BitVec.ofBool v.valid

/-- TXBUF word k: TX[4k] ++ TX[4k+1] ++ TX[4k+2] ++ TX[4k+3] (10_state.md R46, 20_memory.md R70). -/
def txWord (tx : Vector Byte 32) (k : Fin 8) : Word :=
  tx[4 * k.val] ++ tx[4 * k.val + 1] ++ tx[4 * k.val + 2] ++ tx[4 * k.val + 3]

/-- The value a 32-bit read of a register returns (10_state.md R22–R46). A read of CMD returns 0 (R22). -/
def readReg (r : Reg) (s : State) : Word :=
  match r with
  | .cmd => 0#32
  | .status => (errCode s.err).setWidth 32
  | .crcacc => s.acc.setWidth 32
  | .crcval => (crcFinal s.cfg s.acc).setWidth 32
  | .pstat => pstatWord s.prs
  | .phdr0 => phdr0Word s.prs
  | .phdr1 => phdr1Word s.prs
  | .pblk => pblkWord s.prs
  | .ppos => s.prs.ppos
  | .pboff => s.prs.pboff
  | .pdlen => s.prs.pdlen
  | .tid => s.tid
  | .off => s.off
  | .rsz => s.size.setWidth 32
  | .decl => s.decl
  | .xstat => xstatWord s.slot
  | .xtid => s.slot.xtid
  | .xdecl => s.slot.xdecl
  | .xwoff => s.slot.xwoff
  | .vin => s.vin
  | .vcfg => s.vcfg
  | .vout => voutWord s.vout
  | .txlen => s.txLen.setWidth 32
  | .txbuf k => txWord s.tx k

/-- The value an admitted read at a window offset returns: 0 at an unmapped offset (20_memory.md R67). -/
def readWindow (off : Nat) (s : State) : Word :=
  match regAt off with
  | some r => readReg r s
  | none => 0#32

/-! ### What a write stores -/

/-- A 32-bit write to a register other than CMD: a read/write register takes its writable bits (20_memory.md R65); a write to a
read-only register changes nothing (R66). CMD has no storage (10_state.md R22). -/
def writeReg (r : Reg) (v : Word) (s : State) : State :=
  match r with
  | .tid => { s with tid := v }
  | .off => { s with off := v }
  | .rsz => { s with size := rszSizeOf v }
  | .decl => { s with decl := v }
  | .vin => { s with vin := v &&& vinMask }
  | .vcfg => { s with vcfg := v &&& vcfgMask }
  | .cmd | .status | .crcacc | .crcval | .pstat | .phdr0 | .phdr1 | .pblk | .ppos | .pboff | .pdlen => s
  | .xstat | .xtid | .xdecl | .xwoff | .vout | .txlen | .txbuf _ => s

end Sys2Proof.Machine
end

