-- ==== Sys2Proof/Machine/Bus.lean ====
section
/-! DEFINITION. What one event of the host or the platform does to the block: reads, writes, commands (20_memory.md R62–R71) and
the platform's reset (70_reset_and_hazards.md R260). -/

namespace Sys2Proof.Machine

/-- A command word written to CMD (30_encoding.md R84): the command it decodes to, or ILLEGAL_COMMAND, which changes STATUS.ERR
only (R85). -/
def runCommand (w : Word) (s : State) : Host.Outcome State Fault Refusal :=
  match decode w with
  | .ok i => exec i s
  | .error _ => .next (s.raise .illegalCommand)

/-- An access the block does not admit (20_memory.md R63): it has no effect and no value. -/
def notAdmitted (off : Nat) : Fault := if off < windowSize then .busError else .outsideWindow

/-- A host read (20_memory.md R64, R67, R68): the host receives the word, and the block does not change. -/
def performRead (off size : Nat) (s : State) : Host.Outcome State Fault Refusal :=
  if admitted off size then .next { s with answers := readWindow off s :: s.answers } else .fault (notAdmitted off)

/-- A host write (20_memory.md R65–R69): a command at CMD, a store at a read/write register, nothing anywhere else. -/
def performWrite (off size : Nat) (v : Word) (s : State) : Host.Outcome State Fault Refusal :=
  if admitted off size then
    match regAt off with
    | some .cmd => runCommand v s
    | some r => .next (writeReg r v s)
    | none => .next s
  else .fault (notAdmitted off)

/-- One event, performed whole before the next (20_memory.md R71, R73). -/
def perform (e : Event) (s : State) : Host.Outcome State Fault Refusal :=
  match e with
  | .read off size => performRead off size s
  | .write off size v => performWrite off size v s
  | .platformReset => .next s.resetRegisters

end Sys2Proof.Machine
end

