-- ==== Sys2Proof/Machine/Step.lean ====
section
/-! DEFINITION. One step: the oldest pending event, performed whole (00_scope.md R15, 20_memory.md R73). -/

namespace Sys2Proof.Machine

/-- One step of the merged machine of 00_scope.md R15. The block acts only on a host access, so with none pending nothing
changes (notes/assumptions/5.md). Parameters outside 00_scope.md R7 are refused. -/
def step (s : State) : Host.Outcome State Fault Refusal :=
  if s.cfg.wellFormed then
    match s.pending with
    | [] => .next s
    | e :: rest => perform e { s with pending := rest }
  else .refused .badConfiguration

/-- The state in which the very next step is the host's write to CMD of the word given by the low `nbits` bits of `w`. A program
is the host's accesses (00_scope.md R16), so the write is put before those already pending (notes/assumptions/1.md). -/
def State.withFetchWord (s : State) (nbits w : Nat) : State :=
  { s with pending := .write (regOffset .cmd) 4 (BitVec.ofNat 32 (w % 2 ^ nbits)) :: s.pending }

end Sys2Proof.Machine
end

