-- ==== Sys2Proof/Machine/Asm.lean ====
section
/-! DEFINITION. The assembler of host programs: source lines and pseudo-instructions to host accesses (30_encoding.md R88, R89).
An operand out of its layout's range is an error, never truncated. -/

namespace Sys2Proof.Machine

/-- The instruction a source command stands for, if every operand is in range (30_encoding.md R88). -/
def assembleCommand (c : SrcCommand) : Option Instr :=
  if c.wellFormed then
    match c with
    | .nop => some .nop
    | .srst => some .srst
    | .crcInit => some .crcInit
    | .crcByte b => some (.crcByte (BitVec.ofNat 8 b))
    | .prsStart m => some (.prsStart m)
    | .prsByte b => some (.prsByte (BitVec.ofNat 8 b))
    | .prsEnd => some .prsEnd
    | .bldIdack a => some (.bldIdack a)
    | .bldTcpack n => some (.bldTcpack (BitVec.ofNat 8 n))
    | .bldUdpack loc n => some (.bldUdpack (BitVec.ofNat 8 loc) (BitVec.ofNat 8 n))
    | .bldImgreq => some .bldImgreq
    | .xferInit => some .xferInit
    | .xferChunk len => some (.xferChunk (BitVec.ofNat 16 len))
    | .valCheck => some .valCheck
  else none

/-- The bytes of a byte list in source: a string stands for its ASCII bytes in order (30_encoding.md R89). -/
def srcBytes (items : List SrcItem) : List Nat :=
  items.flatMap fun
    | .num n => [n]
    | .text s => s.toList.map Char.toNat

/-- What a line stands for: itself, or the lines its pseudo-instruction expands to (30_encoding.md R89). R89 writes the byte lists
as `b0, …, bk` and does not say whether one may be empty. Here it may (DESIGN CHOICE, notes/assumptions/19.md): CRC.BUF is then
CRC.INIT alone, PRS.FEED no line, and PRS.FRAME an empty frame. -/
def expandLine (l : SrcLine) : List SrcLine :=
  match l with
  | .wr r v => [.wr r v]
  | .rd r => [.rd r]
  | .command c => [.command c]
  | .crcBuf bytes => .command .crcInit :: (srcBytes bytes).map fun b => .command (.crcByte b)
  | .prsFeed bytes => (srcBytes bytes).map fun b => .command (.prsByte b)
  | .prsFrame m bytes =>
    .command (.prsStart m) :: ((srcBytes bytes).map fun b => .command (.prsByte b)) ++ [.command .prsEnd]
  | .imgreq tid off size => [.wr .tid tid, .wr .off off, .wr .rsz size, .command .bldImgreq]
  | .xferStart tid decl => [.wr .tid tid, .wr .decl decl, .command .xferInit]
  | .xferRecv tid len => [.wr .tid tid, .command (.xferChunk len)]
  | .val vin => [.wr .vin vin, .command .valCheck]

/-- The host access of one line that is no pseudo-instruction (30_encoding.md R88): `WR` is a 32-bit write, `RD` a 32-bit read,
and a command is a write of its encoding to CMD. A pseudo-instruction stands for several lines, so it has none. -/
def assembleLine (l : SrcLine) : Option Event :=
  match l with
  | .wr r v => if v < 2 ^ 32 then some (.write (regOffset r) 4 (BitVec.ofNat 32 v)) else none
  | .rd r => some (.read (regOffset r) 4)
  | .command c => (assembleCommand c).map fun i => .write (regOffset .cmd) 4 (encode i)
  | .crcBuf _ | .prsFeed _ | .prsFrame _ _ | .imgreq _ _ _ | .xferStart _ _ | .xferRecv _ _ | .val _ => none

/-- The accesses of a list of lines, in order; one line in error refuses the whole. -/
def assembleLines : List SrcLine → Option (List Event)
  | [] => some []
  | l :: rest =>
    match assembleLine l, assembleLines rest with
    | some e, some es => some (e :: es)
    | _, _ => none

/-- A host program assembled: every line in range, pseudo-instructions expanded, each line's access in order. -/
def assemble (program : List SrcLine) : Option (List Event) :=
  if program.all SrcLine.wellFormed then assembleLines (program.flatMap expandLine) else none

/-- The machine with a host program's accesses before it. -/
def State.withProgram (s : State) (accesses : List Event) : State := { s with pending := accesses }

end Sys2Proof.Machine
end

