-- ==== Sys2Proof/Safety.lean ====
section
/-! DEFINITION. What the statements say of whole states: the invariants of every reachable state (10_state.md R50 and the rules it
draws on), and when a step is safe. -/

namespace Sys2Proof.Machine

/-- The states that count identifier bytes, T_ID and U_ID (10_state.md R26). -/
abbrev CountsIdentifier (p : ParserState) : Prop := p = .tId ∨ p = .uId

/-- 10_state.md R50 items 2, 3 and 6, on the parser's registers, with the fact item 6 rests on: where the record count is
expected, the codec has been consumed. Item 1 (PST is not 14 or 15, KIND is not 3) holds of every state of the model: no other
value can be written down. -/
abbrev ParserInv (p : Parser) : Prop :=
  (p.perr ≠ .none ↔ p.pst = .error) ∧ (p.prem ≠ 0#16 ↔ CountsIdentifier p.pst) ∧
    (p.haveCount = true → p.haveCodec = true) ∧ (p.pst = .bCount → p.haveCodec = true)

/-- 10_state.md R26: the byte index stays inside the field the parser's state reads, and is 0 where it reads none. -/
abbrev ParserIndexInv (p : Parser) : Prop :=
  (p.pst = .tLead ∨ p.pst = .tMark ∨ p.pst = .uIdlen → p.pk ≤ 1#4) ∧ (p.pst = .tDlen → p.pk ≤ 3#4) ∧
    (p.pst = .uHdr → p.pk ≤ 5#4) ∧
      (p.pst ≠ .tLead → p.pst ≠ .tMark → p.pst ≠ .uIdlen → p.pst ≠ .tDlen → p.pst ≠ .uHdr → p.pk = 0#4)

/-- 10_state.md R38, R41 and R50 item 4, on the transfer slot. -/
abbrev SlotInv (x : Slot) : Prop :=
  x.xwoff ≤ x.xdecl ∧ ¬(x.active = true ∧ x.complete = true) ∧
    (x.active = true → x.xwoff < x.xdecl ∨ (x.xwoff = 0#32 ∧ x.xdecl = 0#32))

/-- 10_state.md R50 item 5: the frame lengths there are, and every byte at or beyond the length is 0. -/
abbrev FrameInv (s : State) : Prop :=
  s.txLen ∈ [0#6, 1#6, 4#6, 7#6, 31#6] ∧ ∀ i : Fin 32, s.txLen.toNat ≤ i.val → s.tx[i] = 0#8

/-- 10_state.md R42, R43: the reserved bits VIN[7:4] and VCFG[31:24] read 0. -/
abbrev ReservedInv (s : State) : Prop := s.vin &&& ~~~vinMask = 0#32 ∧ s.vcfg &&& ~~~vcfgMask = 0#32

/-- The invariants of 10_state.md R50, with R38, R41 and the reserved bits of R42 and R43. -/
abbrev Inv (s : State) : Prop := ParserInv s.prs ∧ SlotInv s.slot ∧ FrameInv s ∧ ReservedInv s

/-- An outcome is safe when the machine goes on: a command's error is a next state (60_exceptions.md R233), so only an access
that is not admitted and a refused configuration are not. -/
abbrev SafeOutcome (o : Host.Outcome State Fault Refusal) : Prop := ∃ t, o = .next t

/-- Commands one after the other, with no other access between them. -/
def execAll : List Instr → State → Host.Outcome State Fault Refusal
  | [], s => .next s
  | i :: rest, s =>
    match exec i s with
    | .next t => execAll rest t
    | .fault r => .fault r
    | .refused r => .refused r

/-- The commands that feed the parser one whole frame, PRS.FRAME of 30_encoding.md R89. -/
def frameCommands (m : Transport) (frame : List Byte) : List Instr :=
  .prsStart m :: frame.map .prsByte ++ [.prsEnd]

/-- A device that always sends exactly the chunk requested: `k` times XFER.CHUNK with the length RSZ.SIZE asks for. -/
def serveRequests : Nat → State → Host.Outcome State Fault Refusal
  | 0, s => .next s
  | k + 1, s =>
    match exec (.xferChunk s.size) s with
    | .next t => serveRequests k t
    | .fault r => .fault r
    | .refused r => .refused r

end Sys2Proof.Machine
end

