-- ==== Sys2Proof/Certificates/Slice0/Obligations.lean ====
section
/-! DEFINITION. The statements for the provers, in the order of OBLIGATIONS.json: encoding, the bus, the registers, reset, the CRC
engine, the parser, the builder, the transfer sequencer, the validity checker, and the whole machine. -/

open Sys2Proof Sys2Proof.Machine

/-! ### Encoding -/

/-- No bit of an instruction is lost in its word: decoding an encoded instruction gives it back (30_encoding.md R80, R82, R83). -/
def Obligations.DecodeOfEncodeIsTheInstruction : Prop :=
  ∀ i : Instr, decode (encode i) = .ok i

/-- Each legal word is one command's only word: a word that decodes is the encoding of what it decodes to. -/
def Obligations.EncodeOfDecodeIsTheWord : Prop :=
  ∀ (w : Word) (i : Instr), decode w = .ok i → encode i = w

/-- 30_encoding.md R84: a word written to CMD runs the command of the row it matches, with the operands in its bits, and raises
ILLEGAL_COMMAND if it matches none. -/
def Obligations.CommandWordRunsItsTableRow : Prop :=
  ∀ (w : Word) (s : State),
    (∀ r ∈ opcodeTable, w &&& r.mask = r.pattern →
      ∃ i, decode w = .ok i ∧ i.mnemonic = r.mnemonic ∧ encode i = w ∧ performWrite 0x00 4 w s = exec i s) ∧
    ((∀ r ∈ opcodeTable, w &&& r.mask ≠ r.pattern) →
      performWrite 0x00 4 w s = .next { s with err := .illegalCommand })

/-- 30_encoding.md R83: the rows' match and mask pairs are pairwise disjoint. -/
def Obligations.OpcodeRowsAreDisjoint : Prop :=
  ∀ w : Word, ∀ r₁ ∈ opcodeTable, ∀ r₂ ∈ opcodeTable,
    w &&& r₁.mask = r₁.pattern → w &&& r₂.mask = r₂.pattern → r₁ = r₂

/-- 30_encoding.md R85: the words that match no row are those with an OP not in the table, a nonzero RES, or a bit of OPND that
the layout does not use; each changes STATUS.ERR only. -/
def Obligations.IllegalWordsChangeOnlyStatus : Prop :=
  ∀ (w : Word) (s : State),
    let op := w.extractLsb' 24 8
    let res := w.extractLsb' 16 8
    let illegal :=
      op ∉ [0x00#8, 0x01#8, 0x10#8, 0x11#8, 0x20#8, 0x21#8, 0x22#8, 0x30#8, 0x31#8, 0x32#8, 0x33#8, 0x40#8, 0x41#8, 0x50#8] ∨
      res ≠ 0#8 ∨
      (op ∈ [0x00#8, 0x01#8, 0x10#8, 0x22#8, 0x33#8, 0x40#8, 0x50#8] ∧ w.extractLsb' 0 16 ≠ 0#16) ∨
      (op ∈ [0x11#8, 0x21#8, 0x31#8] ∧ w.extractLsb' 8 8 ≠ 0#8) ∨
      (op ∈ [0x20#8, 0x30#8] ∧ w.extractLsb' 1 15 ≠ 0#15)
    ((∀ r ∈ opcodeTable, w &&& r.mask ≠ r.pattern) ↔ illegal) ∧
      (illegal → performWrite 0x00 4 w s = .next { s with err := .illegalCommand })

/-- The example words of 30_encoding.md R88, read by the decoder. -/
def Obligations.ExampleWordsDecode : Prop :=
  decode 0x01000000#32 = .ok .srst ∧ decode 0x11000031#32 = .ok (.crcByte 0x31#8) ∧
    decode 0x20000001#32 = .ok (.prsStart .udp) ∧ decode 0x30000001#32 = .ok (.bldIdack true) ∧
      decode 0x32000201#32 = .ok (.bldUdpack 0x02#8 0x01#8) ∧ decode 0x41000800#32 = .ok (.xferChunk 0x0800#16) ∧
        decode 0x50000000#32 = .ok .valCheck

/-- 30_encoding.md R88: an operand out of its layout's range is an assembly error, never truncated. -/
def Obligations.SourceOperandsAreNeverTruncated : Prop :=
  (∀ b, 256 ≤ b → assembleCommand (.crcByte b) = none ∧ assembleCommand (.prsByte b) = none ∧
    assembleCommand (.bldTcpack b) = none) ∧
  (∀ loc n, 256 ≤ loc ∨ 256 ≤ n → assembleCommand (.bldUdpack loc n) = none) ∧
  (∀ len, 65536 ≤ len → assembleCommand (.xferChunk len) = none) ∧
  (∀ b : Byte, assembleCommand (.crcByte b.toNat) = some (.crcByte b) ∧
    assembleCommand (.prsByte b.toNat) = some (.prsByte b) ∧ assembleCommand (.bldTcpack b.toNat) = some (.bldTcpack b)) ∧
  (∀ loc n : Byte, assembleCommand (.bldUdpack loc.toNat n.toNat) = some (.bldUdpack loc n)) ∧
  (∀ len : Half, assembleCommand (.xferChunk len.toNat) = some (.xferChunk len))

/-- 30_encoding.md R89: each pseudo-instruction has no meaning beyond its expansion, wherever it stands in a program, and a
string of ASCII characters stands for their bytes in order. R89 lists one byte or more; that the empty list and the empty string
are accepted too is the model's choice (notes/assumptions/19.md). -/
def Obligations.PseudoInstructionsAreTheirExpansions : Prop :=
  ∀ before after : List SrcLine,
    let same (l : SrcLine) (ls : List SrcLine) := assemble (before ++ [l] ++ after) = assemble (before ++ ls ++ after)
    (∀ bs : List Nat, same (.crcBuf (bs.map .num)) (.command .crcInit :: bs.map fun b => .command (.crcByte b))) ∧
    (∀ bs : List Nat, same (.prsFeed (bs.map .num)) (bs.map fun b => .command (.prsByte b))) ∧
    (∀ m bs, same (.prsFrame m bs) [.command (.prsStart m), .prsFeed bs, .command .prsEnd]) ∧
    (∀ tid off size, same (.imgreq tid off size) [.wr .tid tid, .wr .off off, .wr .rsz size, .command .bldImgreq]) ∧
    (∀ tid decl, same (.xferStart tid decl) [.wr .tid tid, .wr .decl decl, .command .xferInit]) ∧
    (∀ tid len, same (.xferRecv tid len) [.wr .tid tid, .command (.xferChunk len)]) ∧
    (∀ vin, same (.val vin) [.wr .vin vin, .command .valCheck]) ∧
    (∀ (x : String) (pre post : List SrcItem), (∀ c ∈ x.toList, c.toNat < 128) →
      let bytes := x.toList.map fun c => SrcItem.num c.toNat
      same (.crcBuf (pre ++ [.text x] ++ post)) [.crcBuf (pre ++ bytes ++ post)] ∧
        same (.prsFeed (pre ++ [.text x] ++ post)) [.prsFeed (pre ++ bytes ++ post)])

/-! ### The bus -/

/-- A step whose oldest event is a write to CMD of a word that decodes to an instruction is exec of that instruction at the
state with the event taken (20_memory.md R71). The queue of events is the model's own (notes/assumptions/1.md). -/
def Obligations.StepRunsTheDecodedCommand : Prop :=
  ∀ (s : State) (w : Word) (i : Instr) (rest : List Event), s.cfg.wellFormed = true →
    s.pending = .write 0x00 4 w :: rest → decode w = .ok i → step s = exec i { s with pending := rest }

/-- 20_memory.md R68: an admitted read changes nothing of the block. The host's list of answers, the model's own field
(notes/assumptions/1.md), takes the word, which is 0 at an unmapped offset (R64, R67). -/
def Obligations.ReadsChangeNothing : Prop :=
  ∀ (s : State) (off : Nat) (rest : List Event), s.cfg.wellFormed = true → off % 4 = 0 → off < 256 →
    s.pending = .read off 4 :: rest →
      (∀ r, regOffset r = off → step s = .next { s with pending := rest, answers := readReg r s :: s.answers }) ∧
      ((∀ r, regOffset r ≠ off) → step s = .next { s with pending := rest, answers := 0#32 :: s.answers })

/-- 20_memory.md R63: an access of the window that is not 32 bits wide or not aligned is a fault of the step, with no value. -/
def Obligations.UnadmittedAccessIsABusError : Prop :=
  ∀ (s : State) (off size : Nat) (v : Word) (rest : List Event), s.cfg.wellFormed = true → off < 256 →
    size ≠ 4 ∨ off % 4 ≠ 0 → s.pending = .read off size :: rest ∨ s.pending = .write off size v :: rest →
      step s = .fault .busError

/-- 20_memory.md R65: a write to an operand register replaces its writable bits, its reserved bits stay 0, and nothing else of
the block changes. -/
def Obligations.OperandRegisterWritesStoreTheWritableBits : Prop :=
  ∀ (s : State) (r : Reg) (mask v : Word) (rest : List Event), s.cfg.wellFormed = true →
    (r, mask) ∈ [(.tid, 0xFFFFFFFF#32), (.off, 0xFFFFFFFF#32), (.rsz, 0x0000FFFF#32), (.decl, 0xFFFFFFFF#32),
      (.vin, 0xFFFFFF0F#32), (.vcfg, 0x00FFFFFF#32)] →
    s.pending = .write (regOffset r) 4 v :: rest →
      ∃ t, step s = .next t ∧ readReg r t = v &&& mask ∧ (∀ r', r' ≠ r → readReg r' t = readReg r' s) ∧
        t.cfg = s.cfg ∧ t.pending = rest ∧ t.answers = s.answers

/-- 20_memory.md R66, R67: a write to a read-only register or an unmapped offset is ignored; CMD and the unmapped offsets read
0. -/
def Obligations.OtherWritesAreIgnored : Prop :=
  ∀ (s : State) (off : Nat), off % 4 = 0 → off < 256 →
    (∀ (v : Word) (rest : List Event), s.cfg.wellFormed = true → s.pending = .write off 4 v :: rest →
      off ∉ [0x00, 0x30, 0x34, 0x38, 0x3C, 0x50, 0x54] → step s = .next { s with pending := rest }) ∧
    (off = 0x00 ∨ off = 0x2C ∨ (0x60 ≤ off ∧ off ≤ 0x7C) ∨ 0xA0 ≤ off → readWindow off s = 0#32)

/-- 00_scope.md R7: parameters outside the allowed values are refused; under allowed values no step is refused. That each step
checks them is the model's way to refuse (notes/assumptions/8.md). -/
def Obligations.ParametersOutsideTheirSetsAreRefused : Prop :=
  ∀ s : State,
    let allowed := (s.cfg.crcRegionLast = 25 ∨ s.cfg.crcRegionLast = 26) ∧
      (s.cfg.tcpDataLenBytes = 0 ∨ s.cfg.tcpDataLenBytes = 4)
    (¬allowed → step s = .refused .badConfiguration) ∧ (allowed → ∀ r, step s ≠ .refused r)

/-- The machine faults only on an access the block does not admit (20_memory.md R62): no command and no admitted access does. The
fault outside the window is the model's own (notes/assumptions/7.md). -/
def Obligations.OnlyUnadmittedAccessesFault : Prop :=
  ∀ (s : State) (f : Fault), step s = .fault f →
    ∃ off size rest, ¬(size = 4 ∧ off % 4 = 0 ∧ off < 256) ∧
      (s.pending = .read off size :: rest ∨ ∃ v, s.pending = .write off size v :: rest)

/-! ### The registers -/

/-- 10_state.md R20, R21: each register stands at its offset, and the map from registers to offsets is one to one, onto 31 aligned
offsets of the window. -/
def Obligations.RegisterMapIsOneToOne : Prop :=
  regOffset .cmd = 0x00 ∧ regOffset .status = 0x04 ∧ regOffset .crcacc = 0x08 ∧ regOffset .crcval = 0x0C ∧
    regOffset .pstat = 0x10 ∧ regOffset .phdr0 = 0x14 ∧ regOffset .phdr1 = 0x18 ∧ regOffset .pblk = 0x1C ∧
    regOffset .ppos = 0x20 ∧ regOffset .pboff = 0x24 ∧ regOffset .pdlen = 0x28 ∧ regOffset .tid = 0x30 ∧
    regOffset .off = 0x34 ∧ regOffset .rsz = 0x38 ∧ regOffset .decl = 0x3C ∧ regOffset .xstat = 0x40 ∧
    regOffset .xtid = 0x44 ∧ regOffset .xdecl = 0x48 ∧ regOffset .xwoff = 0x4C ∧ regOffset .vin = 0x50 ∧
    regOffset .vcfg = 0x54 ∧ regOffset .vout = 0x58 ∧ regOffset .txlen = 0x5C ∧
    (∀ k : Fin 8, regOffset (.txbuf k) = 0x80 + 4 * k.val) ∧
  (∀ off r, regAt off = some r ↔ regOffset r = off) ∧ (∀ r, regOffset r % 4 = 0 ∧ regOffset r < 256) ∧
    ((List.range 256).filter fun off => (regAt off).isSome).length = 31

/-- What a read of each register returns: the field positions and encodings of the read-only registers, and the registers that
are one value whole (10_state.md R23–R46). CMD, which has no storage and reads 0, is in OtherWritesAreIgnored. -/
def Obligations.ReadOnlyRegisterFields : Prop :=
  ∀ s : State,
    let status := readReg .status s
    let pstat := readReg .pstat s
    let phdr0 := readReg .phdr0 s
    let phdr1 := readReg .phdr1 s
    let pblk := readReg .pblk s
    let xstat := readReg .xstat s
    let vout := readReg .vout s
    ([Err.ok, .truncated, .unsupportedCodec, .unknownTransfer, .capacityExceeded, .illegalCommand,
        .parserClosed][status.toNat]? = some s.err) ∧
    ([ParserState.idle, .tLead, .tId, .tMark, .tDlen, .uHdr, .uIdlen, .uId, .bCodec, .bCount, .bBody, .hDone, .closed,
        .error][(pstat.extractLsb' 0 4).toNat]? = some s.prs.pst) ∧
    ([Transport.tcp, .udp][(pstat.extractLsb' 4 1).toNat]? = some s.prs.mode) ∧
    ([FrameKind.none, .handshake, .data][(pstat.extractLsb' 5 2).toNat]? = some s.prs.kind) ∧
    pstat.extractLsb' 7 1 = 0#1 ∧
    ([ParserError.none, .truncated, .unsupportedCodec][(pstat.extractLsb' 8 4).toNat]? = some s.prs.perr) ∧
    pstat.extractLsb' 12 4 = s.prs.pk ∧ pstat.extractLsb' 16 16 = s.prs.prem ∧
    phdr0.extractLsb' 0 16 = s.prs.len16 ∧ phdr0.extractLsb' 16 16 = s.prs.pktid ∧
    phdr1.extractLsb' 0 8 = s.prs.ptype ∧ phdr1.extractLsb' 8 8 = s.prs.locid ∧ phdr1.extractLsb' 16 16 = s.prs.idlen ∧
    pblk.extractLsb' 0 8 = s.prs.codec ∧ pblk.extractLsb' 8 8 = s.prs.nrec ∧ pblk.getLsbD 16 = s.prs.haveCodec ∧
    pblk.getLsbD 17 = s.prs.haveCount ∧ pblk.extractLsb' 18 14 = 0#14 ∧
    (readReg .rsz s).extractLsb' 0 16 = s.size ∧ (readReg .rsz s).extractLsb' 16 16 = 0#16 ∧
    xstat.getLsbD 0 = s.slot.active ∧ xstat.getLsbD 1 = s.slot.complete ∧ xstat.extractLsb' 2 30 = 0#30 ∧
    vout.getLsbD 0 = s.vout.valid ∧ vout.getLsbD 1 = s.vout.emit ∧ vout.getLsbD 2 = s.vout.corrected ∧
    vout.extractLsb' 3 29 = 0#29 ∧
    (readReg .txlen s).extractLsb' 0 6 = s.txLen ∧ (readReg .txlen s).extractLsb' 6 26 = 0#26 ∧
    (readReg .crcacc s).extractLsb' 0 16 = s.acc ∧ (readReg .crcacc s).extractLsb' 16 16 = 0#16 ∧
    (readReg .crcval s).extractLsb' 0 16 =
      (if s.cfg.crcRefIn = s.cfg.crcRefOut then s.acc else reflect16 s.acc) ^^^ s.cfg.crcXorOut ∧
    (readReg .crcval s).extractLsb' 16 16 = 0#16 ∧
    readReg .ppos s = s.prs.ppos ∧ readReg .pboff s = s.prs.pboff ∧ readReg .pdlen s = s.prs.pdlen ∧
    readReg .tid s = s.tid ∧ readReg .off s = s.off ∧ readReg .decl s = s.decl ∧ readReg .xtid s = s.slot.xtid ∧
    readReg .xdecl s = s.slot.xdecl ∧ readReg .xwoff s = s.slot.xwoff ∧ readReg .vin s = s.vin ∧
    readReg .vcfg s = s.vcfg ∧
    ∀ (k : Fin 8) (j : Fin 4),
      (readReg (.txbuf k) s).extractLsb' (24 - 8 * j.val) 8 = s.tx.toList.getD (4 * k.val + j.val) 0#8

/-- 10_state.md R47: there is no hidden state. Two states of the block whose registers all read the same, CMD and CRCVAL left
aside, are equal, given the same parameters and the same host side. -/
def Obligations.RegistersAreTheWholeState : Prop :=
  ∀ s t : State, s.cfg = t.cfg → s.pending = t.pending → s.answers = t.answers →
    (∀ r, r ≠ .cmd → r ≠ .crcval → readReg r s = readReg r t) → s = t

/-! ### Reset and control -/

/-- The reset values of 10_state.md R21 (70_reset_and_hazards.md R261), under any parameters. That State.reset is the state under
the default parameters is the model's choice (notes/assumptions/3.md). -/
def Obligations.ResetRegisterValues : Prop :=
  State.reset = State.powerOn Config.default ∧
  ∀ c : Config,
    let s := State.powerOn c
    let start := if c.crcRefIn then reflect16 c.crcInit else c.crcInit
    readReg .crcacc s = start.setWidth 32 ∧
    readReg .crcval s = ((if c.crcRefIn = c.crcRefOut then start else reflect16 start) ^^^ c.crcXorOut).setWidth 32 ∧
    (readReg .vcfg s).extractLsb' 0 8 = 3#8 ∧ (readReg .vcfg s).extractLsb' 8 8 = c.sleepCodeGpsRst ∧
    (readReg .vcfg s).extractLsb' 16 8 = c.sleepCodeDeepRst ∧ (readReg .vcfg s).extractLsb' 24 8 = 0#8 ∧
    ∀ r, r ≠ .crcacc → r ≠ .crcval → r ≠ .vcfg → readReg r s = 0#32

/-- 46_system.md R221: SRST leaves exactly the power-on state, from every state. That the parameters and the host's side of the
bus, the model's own fields, stay is the model's choice (notes/assumptions/13.md). -/
def Obligations.SoftResetLeavesThePowerOnState : Prop :=
  encode .srst = 0x01000000#32 ∧
  ∀ s : State, exec .srst s = .next { State.powerOn s.cfg with pending := s.pending, answers := s.answers }

/-- 70_reset_and_hazards.md R260: the platform's reset leaves the same state as SRST. That it is one of the events in `pending`,
and that it leaves the rest of them, is the model's choice (notes/assumptions/12.md, notes/assumptions/13.md). -/
def Obligations.PlatformResetEqualsSoftReset : Prop :=
  ∀ (s : State) (rest : List Event), s.cfg.wellFormed = true → s.pending = .platformReset :: rest →
    step s = exec .srst { s with pending := rest }

/-- 46_system.md R220: NOP writes STATUS.ERR <- 0 and nothing else; 0x00000001 is no NOP. -/
def Obligations.NopClearsStatusOnly : Prop :=
  encode .nop = 0x00000000#32 ∧
  ∀ s : State, exec .nop s = .next { s with err := .ok } ∧
    performWrite 0x00 4 0x00000001#32 s = .next { s with err := .illegalCommand }

/-! ### The CRC engine -/

/-- 43_crc16.md R163 with R161: CRC.INIT loads the start value and changes nothing else but STATUS.ERR. -/
def Obligations.CrcInitLoadsTheStartValue : Prop :=
  encode .crcInit = 0x10000000#32 ∧
  ∀ s : State, exec .crcInit s =
    .next { s with err := .ok, acc := if s.cfg.crcRefIn then reflect16 s.cfg.crcInit else s.cfg.crcInit }

/-- 43_crc16.md R164 with R160: CRC.BYTE moves the accumulator by eight shifts, in the direction CRC_REFIN gives, and changes
nothing else but STATUS.ERR. -/
def Obligations.CrcByteStepsTheAccumulator : Prop :=
  (∀ (x : Half) (i : Nat), i < 16 → (reflect16 x).getLsbD i = x.getLsbD (15 - i)) ∧
  ∀ (b : Byte) (s : State), encode (.crcByte b) = 0x11000000#32 ||| b.setWidth 32 ∧
    (s.cfg.crcRefIn = true → exec (.crcByte b) s = .next { s with
      err := .ok
      acc := (fun a : Half => if a.getLsbD 0 then (a >>> 1) ^^^ reflect16 s.cfg.crcPoly else a >>> 1)^[8]
        (s.acc ^^^ b.setWidth 16) }) ∧
    (s.cfg.crcRefIn = false → exec (.crcByte b) s = .next { s with
      err := .ok
      acc := (fun a : Half => if a.getLsbD 15 then (a <<< 1) ^^^ s.cfg.crcPoly else a <<< 1)^[8]
        (s.acc ^^^ (b.setWidth 16 <<< 8)) })

/-- 43_crc16.md R165: under the default parameters the bitwise step equals the table-driven form, with the table entries the
rule lists. -/
def Obligations.CrcStepEqualsTheTableForm : Prop :=
  ∀ c : Config, c.CrcDefaults →
    let table (i : Byte) := crcStep c 0#16 i
    (∀ (acc : Half) (b : Byte), crcStep c acc b = (acc >>> 8) ^^^ table ((acc ^^^ b.setWidth 16).extractLsb' 0 8)) ∧
    table 0x00#8 = 0x0000#16 ∧ table 0x01#8 = 0xC0C1#16 ∧ table 0x02#8 = 0xC181#16 ∧ table 0x03#8 = 0x0140#16 ∧
    table 0x04#8 = 0xC301#16 ∧ table 0x05#8 = 0x03C0#16 ∧ table 0x06#8 = 0x0280#16 ∧ table 0x07#8 = 0xC241#16 ∧
    table 0x80#8 = 0xA001#16 ∧ table 0xFF#8 = 0x4040#16

/-- 43_crc16.md R167: under the default parameters a sequence followed by its CRC, least significant byte first, has CRC 0; most
significant byte first it does not in general. -/
def Obligations.CrcResidueIsZero : Prop :=
  ∀ c : Config, c.CrcDefaults →
    (∀ bytes : List Byte, crc16 c (bytes ++ [(crc16 c bytes).extractLsb' 0 8, (crc16 c bytes).extractLsb' 8 8]) = 0#16) ∧
    ∃ bytes : List Byte, crc16 c (bytes ++ [(crc16 c bytes).extractLsb' 8 8, (crc16 c bytes).extractLsb' 0 8]) ≠ 0#16

/-- 43_crc16.md R160: the two directions of the engine are mirror images, for every polynomial. -/
def Obligations.ReflectedEngineMirrorsTheUnreflected : Prop :=
  ∀ (c : Config) (acc : Half) (b : Byte),
    crcStep { c with crcRefIn := true } acc b =
      reflect16 (crcStep { c with crcRefIn := false } (reflect16 acc) b.reverse)

/-- 43_crc16.md R162, 10_state.md R25: CRC.INIT and one CRC.BYTE per byte leave crc16 of the bytes in CRCVAL, under any
parameters, and touch nothing but the accumulator and STATUS.ERR. -/
def Obligations.CrcCommandsComputeTheSequenceCrc : Prop :=
  ∀ (bytes : List Byte) (s : State), ∃ t, execAll (.crcInit :: bytes.map .crcByte) s = .next t ∧
    readReg .crcval t = (crc16 s.cfg bytes).setWidth 32 ∧ t = { s with err := .ok, acc := t.acc }

/-! ### The frame parser -/

/-- 41_frame_parser.md R101: PRS.START opens a frame in every parser state, clearing every parser register. -/
def Obligations.PrsStartOpensAFrame : Prop :=
  encode (.prsStart .tcp) = 0x20000000#32 ∧ encode (.prsStart .udp) = 0x20000001#32 ∧
  ∀ (m : Transport) (s : State), exec (.prsStart m) s = .next { s with
    err := .ok
    prs := { pst := (if m = .tcp then .tLead else .uHdr), mode := m, kind := (if m = .tcp then .none else .data),
             perr := .none, pk := 0#4, prem := 0#16, len16 := 0#16, pktid := 0#16, ptype := 0#8, locid := 0#8,
             idlen := 0#16, codec := 0#8, nrec := 0#8, haveCodec := false, haveCount := false, ppos := 0#32,
             pboff := 0#32, pdlen := 0#32 } }

/-- 41_frame_parser.md R122: with no frame open PRS.BYTE and PRS.END raise PARSER_CLOSED and write STATUS.ERR only; in every
other state they raise something else or nothing. -/
def Obligations.ClosedParserWritesOnlyStatus : Prop :=
  ∀ (s t : State) (b : Byte),
    let closed := s.prs.pst = .idle ∨ s.prs.pst = .closed ∨ s.prs.pst = .error
    (closed → exec (.prsByte b) s = .next { s with err := .parserClosed } ∧
      exec .prsEnd s = .next { s with err := .parserClosed }) ∧
    (¬closed → exec (.prsByte b) s = .next t ∨ exec .prsEnd s = .next t → t.err ≠ .parserClosed)

/-- 41_frame_parser.md R103: the leading 16-bit field, big-endian; nonzero it opens a handshake identifier of that length,
zero it is the start of a data frame's marker. -/
def Obligations.LeadingFieldTellsHandshakeFromData : Prop :=
  ∀ (s : State) (b : Byte), s.prs.pst = .tLead →
    let len := (s.prs.len16 <<< 8) ||| b.setWidth 16
    let p : Parser := { s.prs with ppos := s.prs.ppos + 1#32, len16 := len }
    (s.prs.pk = 0#4 → exec (.prsByte b) s = .next { s with err := .ok, prs := { p with pk := 1#4 } }) ∧
    (s.prs.pk ≠ 0#4 → len ≠ 0#16 → exec (.prsByte b) s = .next { s with
      err := .ok, prs := { p with pk := 0#4, kind := .handshake, idlen := len, prem := len, pst := .tId } }) ∧
    (s.prs.pk ≠ 0#4 → len = 0#16 → exec (.prsByte b) s = .next { s with
      err := .ok, prs := { p with pk := 0#4, kind := .data, pst := .tMark } })

/-- 41_frame_parser.md R104, R109: an identifier byte lowers PREM by one; the last one ends the identifier. The premise PREM ≠ 0
is the invariant of 10_state.md R50 item 3. -/
def Obligations.IdentifierBytesAreCountedDown : Prop :=
  ∀ (s : State) (b : Byte), s.prs.prem ≠ 0#16 → ∀ (st done : ParserState),
    (st, done) ∈ [(.tId, .hDone), (.uId, .bCodec)] → s.prs.pst = st →
      exec (.prsByte b) s = .next { s with
        err := .ok
        prs := { s.prs with
          ppos := s.prs.ppos + 1#32
          prem := s.prs.prem - 1#16
          pst := if s.prs.prem = 1#16 then done else st } }

/-- 41_frame_parser.md R105: the marker's bytes 2 and 3 are skipped, whatever they are; the data-length word follows only when
TCP_DATA_LEN_BYTES = 4. -/
def Obligations.MarkerBytesAreSkipped : Prop :=
  ∀ (s : State) (b : Byte), s.prs.pst = .tMark →
    let p : Parser := { s.prs with ppos := s.prs.ppos + 1#32 }
    (s.prs.pk = 0#4 → exec (.prsByte b) s = .next { s with err := .ok, prs := { p with pk := 1#4 } }) ∧
    (s.prs.pk ≠ 0#4 → s.cfg.tcpDataLenBytes = 4 →
      exec (.prsByte b) s = .next { s with err := .ok, prs := { p with pk := 0#4, pst := .tDlen } }) ∧
    (s.prs.pk ≠ 0#4 → s.cfg.tcpDataLenBytes ≠ 4 →
      exec (.prsByte b) s = .next { s with err := .ok, prs := { p with pk := 0#4, pst := .bCodec } })

/-- 41_frame_parser.md R106: the data-length word takes four bytes, big-endian, into PDLEN. The premise on PK is the range of
10_state.md R26. -/
def Obligations.DataLengthWordIsRecorded : Prop :=
  ∀ (s : State) (b : Byte), s.prs.pst = .tDlen → s.prs.pk ≤ 3#4 →
    let p : Parser := { s.prs with ppos := s.prs.ppos + 1#32, pdlen := (s.prs.pdlen <<< 8) ||| b.setWidth 32 }
    (s.prs.pk ≠ 3#4 → exec (.prsByte b) s = .next { s with err := .ok, prs := { p with pk := s.prs.pk + 1#4 } }) ∧
    (s.prs.pk = 3#4 → exec (.prsByte b) s = .next { s with err := .ok, prs := { p with pk := 0#4, pst := .bCodec } })

/-- 41_frame_parser.md R107: each byte of the 6-byte UDP header goes to its field, unchecked. The premise on PK is the range of
10_state.md R26. -/
def Obligations.UdpHeaderFieldsAreRecorded : Prop :=
  ∀ (s : State) (b : Byte), s.prs.pst = .uHdr → s.prs.pk ≤ 5#4 →
    let p : Parser := { s.prs with ppos := s.prs.ppos + 1#32, pk := s.prs.pk + 1#4 }
    (s.prs.pk = 0#4 ∨ s.prs.pk = 1#4 → exec (.prsByte b) s =
      .next { s with err := .ok, prs := { p with len16 := (s.prs.len16 <<< 8) ||| b.setWidth 16 } }) ∧
    (s.prs.pk = 2#4 ∨ s.prs.pk = 3#4 → exec (.prsByte b) s =
      .next { s with err := .ok, prs := { p with pktid := (s.prs.pktid <<< 8) ||| b.setWidth 16 } }) ∧
    (s.prs.pk = 4#4 → exec (.prsByte b) s = .next { s with err := .ok, prs := { p with ptype := b } }) ∧
    (s.prs.pk = 5#4 → exec (.prsByte b) s =
      .next { s with err := .ok, prs := { p with locid := b, pk := 0#4, pst := .uIdlen } })

/-- 41_frame_parser.md R108: the UDP identifier's length prefix, big-endian; 0 is an empty identifier. -/
def Obligations.UdpIdentifierLengthIsRead : Prop :=
  ∀ (s : State) (b : Byte), s.prs.pst = .uIdlen →
    let len := (s.prs.idlen <<< 8) ||| b.setWidth 16
    let p : Parser := { s.prs with ppos := s.prs.ppos + 1#32, idlen := len }
    (s.prs.pk = 0#4 → exec (.prsByte b) s = .next { s with err := .ok, prs := { p with pk := 1#4 } }) ∧
    (s.prs.pk ≠ 0#4 → len = 0#16 → exec (.prsByte b) s =
      .next { s with err := .ok, prs := { p with pk := 0#4, pst := .bCodec } }) ∧
    (s.prs.pk ≠ 0#4 → len ≠ 0#16 → exec (.prsByte b) s =
      .next { s with err := .ok, prs := { p with pk := 0#4, prem := len, pst := .uId } })

/-- 41_frame_parser.md R110: a known codec goes on to the record count; any other fails the frame with UNSUPPORTED_CODEC. -/
def Obligations.CodecByteIsChecked : Prop :=
  ∀ (s : State) (b : Byte), s.prs.pst = .bCodec →
    let p : Parser := { s.prs with ppos := s.prs.ppos + 1#32, codec := b, haveCodec := true }
    (b ∈ [0x07#8, 0x08#8, 0x8E#8, 0x0C#8, 0x10#8] →
      exec (.prsByte b) s = .next { s with err := .ok, prs := { p with pst := .bCount } }) ∧
    (b ∉ [0x07#8, 0x08#8, 0x8E#8, 0x0C#8, 0x10#8] → exec (.prsByte b) s =
      .next { s with err := .unsupportedCodec, prs := { p with perr := .unsupportedCodec, pst := .error } })

/-- 41_frame_parser.md R111, R112, R113: the record count fixes the body's offset; a body byte, or a byte after a complete
handshake identifier, only advances PPOS. -/
def Obligations.CountAndBodyBytesAreConsumed : Prop :=
  ∀ (s : State) (b : Byte),
    let pos := s.prs.ppos + 1#32
    (s.prs.pst = .bCount → exec (.prsByte b) s = .next { s with
      err := .ok, prs := { s.prs with ppos := pos, nrec := b, haveCount := true, pboff := pos, pst := .bBody } }) ∧
    (s.prs.pst = .bBody ∨ s.prs.pst = .hDone →
      exec (.prsByte b) s = .next { s with err := .ok, prs := { s.prs with ppos := pos } })

/-- 41_frame_parser.md R114: PRS.END closes the frame from the two accepting states, raises PARSER_CLOSED when none is open, and
otherwise raises TRUNCATED. -/
def Obligations.PrsEndClosesOrTruncates : Prop :=
  encode .prsEnd = 0x22000000#32 ∧
  ∀ s : State,
    let closed := s.prs.pst = .idle ∨ s.prs.pst = .closed ∨ s.prs.pst = .error
    let accepting := s.prs.pst = .bBody ∨ s.prs.pst = .hDone
    (closed → exec .prsEnd s = .next { s with err := .parserClosed }) ∧
    (accepting → exec .prsEnd s = .next { s with err := .ok, prs := { s.prs with pst := .closed } }) ∧
    (¬closed → ¬accepting → exec .prsEnd s = .next { s with
      err := .truncated, prs := { s.prs with perr := .truncated, pk := 0#4, prem := 0#16, pst := .error } })

/-- 41_frame_parser.md R100: the parser commands write the parser's registers and STATUS.ERR and nothing else, and what they
write depends on the parser's registers and TCP_DATA_LEN_BYTES alone. -/
def Obligations.ParserCommandsTouchOnlyTheParser : Prop :=
  ∀ i : Instr, (∃ m, i = .prsStart m) ∨ (∃ b, i = .prsByte b) ∨ i = .prsEnd →
    ∀ s s' : State, s.prs = s'.prs → s.cfg.tcpDataLenBytes = s'.cfg.tcpDataLenBytes →
      ∃ t t', exec i s = .next t ∧ exec i s' = .next t' ∧ t.prs = t'.prs ∧ t.err = t'.err ∧
        t = { s with prs := t.prs, err := t.err } ∧ t' = { s' with prs := t'.prs, err := t'.err }

/-- 41_frame_parser.md R121: TRUNCATED and UNSUPPORTED_CODEC put the parser into ERROR with the same code in PERR, and only
PRS.START and a reset take it out of there: nothing else changes any parser register. R121 names SRST; that the platform's reset
does so too is read from 70_reset_and_hazards.md R260 (notes/assumptions/18.md). -/
def Obligations.ParserErrorIsSticky : Prop :=
  (∀ (i : Instr) (s t : State), exec i s = .next t →
    (t.err = .truncated → t.prs.pst = .error ∧ t.prs.perr = .truncated) ∧
    (t.err = .unsupportedCodec → t.prs.pst = .error ∧ t.prs.perr = .unsupportedCodec)) ∧
  (∀ (s : State) (b : Byte), s.prs.pst = .error → exec (.prsByte b) s = .next { s with err := .parserClosed } ∧
    exec .prsEnd s = .next { s with err := .parserClosed }) ∧
  ∀ s t : State, s.prs.pst = .error → step s = .next t → (∀ rest, s.pending ≠ .platformReset :: rest) →
    (∀ w rest, s.pending = .write 0x00 4 w :: rest →
      decode w ≠ .ok .srst ∧ ∀ m, decode w ≠ .ok (.prsStart m)) →
    t.prs = s.prs

/-- 41_frame_parser.md R119: a field takes each byte as F <- (F << 8 | b) mod 2^(8n), so after its n bytes it holds their
big-endian value. -/
def Obligations.FieldsAreBigEndian : Prop :=
  (∀ (f : Half) (b : Byte), (shiftIn16 f b).toNat = (f.toNat * 256 + b.toNat) % 2 ^ 16) ∧
  (∀ (f : Word) (b : Byte), (shiftIn32 f b).toNat = (f.toNat * 256 + b.toNat) % 2 ^ 32) ∧
  (∀ v : Half, (be2 v).foldl shiftIn16 0#16 = v) ∧ (∀ v : Word, (be4 v).foldl shiftIn32 0#32 = v)

/-- 41_frame_parser.md R115, R116: the TCP frames the parser accepts are exactly the handshake and data layouts. -/
def Obligations.TcpParserAcceptsExactlyTheLayouts : Prop :=
  ∀ (s : State) (frame : List Byte), s.cfg.wellFormed = true →
    ∃ t, execAll (frameCommands .tcp frame) s = .next t ∧
      (t.prs.pst = .closed ∧ t.prs.kind = .handshake ↔
        ∃ (len : Half) (ident trailing : List Byte), len ≠ 0#16 ∧ ident.length = len.toNat ∧
          frame = be2 len ++ ident ++ trailing) ∧
      (t.prs.pst = .closed ∧ t.prs.kind = .data ↔
        ∃ (marker length : List Byte) (codec count : Byte) (body : List Byte), marker.length = 2 ∧
          length.length = s.cfg.tcpDataLenBytes ∧ codec ∈ [0x07#8, 0x08#8, 0x8E#8, 0x0C#8, 0x10#8] ∧
            frame = [0x00#8, 0x00#8] ++ marker ++ length ++ [codec, count] ++ body) ∧
      (t.prs.pst = .closed → t.prs.kind ≠ .none)

/-- 41_frame_parser.md R115, R117: the UDP datagrams the parser accepts are exactly the layout. -/
def Obligations.UdpParserAcceptsExactlyTheLayout : Prop :=
  ∀ (s : State) (frame : List Byte),
    ∃ t, execAll (frameCommands .udp frame) s = .next t ∧
      (t.prs.pst = .closed ↔
        ∃ (header : List Byte) (len : Half) (ident : List Byte) (codec count : Byte) (body : List Byte),
          header.length = 6 ∧ ident.length = len.toNat ∧ codec ∈ [0x07#8, 0x08#8, 0x8E#8, 0x0C#8, 0x10#8] ∧
            frame = header ++ be2 len ++ ident ++ [codec, count] ++ body)

/-- 41_frame_parser.md R117, R118: an accepted UDP datagram leaves each of its fields in its register, and PBOFF at the first
body byte. -/
def Obligations.UdpDatagramFieldsEndInTheirRegisters : Prop :=
  ∀ (s : State) (len pktid idlen : Half) (ptype locid codec count : Byte) (ident body : List Byte),
    ident.length = idlen.toNat → codec ∈ [0x07#8, 0x08#8, 0x8E#8, 0x0C#8, 0x10#8] →
      ∃ t, execAll (frameCommands .udp (be2 len ++ be2 pktid ++ [ptype, locid] ++ be2 idlen ++ ident ++
          [codec, count] ++ body)) s = .next t ∧
        t.err = .ok ∧ t.prs.pst = .closed ∧ t.prs.kind = .data ∧ t.prs.mode = .udp ∧ t.prs.len16 = len ∧
        t.prs.pktid = pktid ∧ t.prs.ptype = ptype ∧ t.prs.locid = locid ∧ t.prs.idlen = idlen ∧ t.prs.codec = codec ∧
        t.prs.nrec = count ∧ t.prs.pboff.toNat = 10 + idlen.toNat ∧
        t.prs.ppos = BitVec.ofNat 32 (10 + idlen.toNat + body.length)

/-! ### The frame builder -/

/-- 44_frame_builder.md R181, R182, R183: the three acknowledgment frames, byte by byte; every other byte of TXBUF is cleared,
and nothing else changes but STATUS.ERR and TXLEN. -/
def Obligations.AcknowledgmentsAreByteExact : Prop :=
  ∀ s : State,
    (∀ a : Bool, encode (.bldIdack a) = (if a then 0x30000001#32 else 0x30000000#32) ∧
      ∃ t, exec (.bldIdack a) s = .next t ∧ t = { s with err := .ok, txLen := 1#6, tx := t.tx } ∧
        t.tx.toList = [if a then 0x01#8 else 0x00#8] ++ List.replicate 31 0x00#8) ∧
    (∀ n : Byte, encode (.bldTcpack n) = 0x31000000#32 ||| n.setWidth 32 ∧
      ∃ t, exec (.bldTcpack n) s = .next t ∧ t = { s with err := .ok, txLen := 4#6, tx := t.tx } ∧
        t.tx.toList = [0x00#8, 0x00#8, 0x00#8, n] ++ List.replicate 28 0x00#8) ∧
    (∀ loc n : Byte, encode (.bldUdpack loc n) = 0x32000000#32 ||| (loc.setWidth 32 <<< 8) ||| n.setWidth 32 ∧
      ∃ t, exec (.bldUdpack loc n) s = .next t ∧ t = { s with err := .ok, txLen := 7#6, tx := t.tx } ∧
        t.tx.toList = [0x00#8, 0x05#8, 0x00#8, 0x00#8, 0x01#8, loc, n] ++ List.replicate 25 0x00#8)

/-- 44_frame_builder.md R184, R185, R187, R188: BLD.IMGREQ builds the 31-byte request from TID, OFF and RSZ.SIZE, byte by byte,
with the CRC of bytes 8 to CRC_REGION_LAST most significant byte first, and leaves the accumulator in CRCACC. -/
def Obligations.ImageRequestIsByteExact : Prop :=
  encode .bldImgreq = 0x33000000#32 ∧
  ∀ s : State, s.cfg.wellFormed = true →
    let payload := [0x0C#8, 0x01#8, 0x0D#8, 0x00#8, 0x00#8, 0x00#8, 0x0B#8, 0x02#8] ++ be4 s.tid ++ be4 s.off ++ be2 s.size
    let region := payload ++ if s.cfg.crcRegionLast = 26 then [0x01#8] else []
    let crc := crc16 s.cfg region
    ∃ t, exec .bldImgreq s = .next t ∧
      t = { s with err := .ok, txLen := 31#6, tx := t.tx, acc := crcRun s.cfg (acc0 s.cfg) region } ∧
      t.tx.toList = [0x00#8, 0x00#8, 0x00#8, 0x00#8, 0x00#8, 0x00#8, 0x00#8, 0x13#8] ++ payload ++
        [0x01#8, 0x00#8, 0x00#8, crc.extractLsb' 8 8, crc.extractLsb' 0 8, 0x00#8]

/-! ### The transfer sequencer -/

/-- 42_transfer.md R142: XFER.INIT starts the transfer TID, DECL at write offset 0, whatever the slot held, sets OFF and
RSZ.SIZE to the first request, and builds it as BLD.IMGREQ then does. -/
def Obligations.XferInitStartsTheTransfer : Prop :=
  encode .xferInit = 0x40000000#32 ∧
  ∀ s : State, ∃ t, exec .xferInit s = .next t ∧
    exec .bldImgreq { s with
      slot := { active := true, complete := false, xtid := s.tid, xdecl := s.decl, xwoff := 0#32 }
      off := 0#32
      size := BitVec.ofNat 16 (min 2048 s.decl.toNat) } = .next t

/-- 42_transfer.md R143: XFER.CHUNK rejects an unknown transfer, then a chunk beyond the capacity, changing nothing but
STATUS.ERR; otherwise it advances XWOFF and completes the transfer or builds the next request. The premise XWOFF ≤ XDECL is the
invariant of 10_state.md R41. -/
def Obligations.XferChunkCountsTheChunk : Prop :=
  ∀ (s : State) (len : Half), s.slot.xwoff ≤ s.slot.xdecl →
    let known := s.slot.active = true ∧ s.tid = s.slot.xtid
    let woff := s.slot.xwoff.toNat + len.toNat
    encode (.xferChunk len) = 0x41000000#32 ||| len.setWidth 32 ∧
    (¬known → exec (.xferChunk len) s = .next { s with err := .unknownTransfer }) ∧
    (known → s.slot.xdecl.toNat < woff → exec (.xferChunk len) s = .next { s with err := .capacityExceeded }) ∧
    (known → woff = s.slot.xdecl.toNat → ∃ t, exec (.xferChunk len) s = .next t ∧
      t = { s with
        err := .ok
        slot := { s.slot with xwoff := s.slot.xdecl, active := false, complete := true }
        txLen := 0#6
        tx := t.tx } ∧ t.tx.toList = List.replicate 32 0x00#8) ∧
    (known → woff < s.slot.xdecl.toNat → ∃ t, exec (.xferChunk len) s = .next t ∧
      exec .bldImgreq { s with
        slot := { s.slot with xwoff := BitVec.ofNat 32 woff }
        off := BitVec.ofNat 32 woff
        size := BitVec.ofNat 16 (min 2048 (s.slot.xdecl.toNat - woff)) } = .next t)

/-- A transfer of DECL > 0 bytes whose device sends exactly what is requested makes progress by 2048 bytes per chunk and
completes on chunk number DECL / 2048 rounded up, not before (42_transfer.md R141–R144). Until then TXBUF, TXLEN and CRCACC hold
the request for the next chunk: BLD.IMGREQ would change nothing. -/
def Obligations.TransferCompletesInCeilingManyChunks : Prop :=
  ∀ s : State, s.decl ≠ 0#32 →
    let chunks := (s.decl.toNat + 2047) / 2048
    ∃ t, exec .xferInit s = .next t ∧
      (∀ k < chunks, ∃ u, serveRequests k t = .next u ∧ u.err = .ok ∧ u.slot.active = true ∧
        u.slot.xwoff.toNat = 2048 * k ∧ u.off = u.slot.xwoff ∧ u.txLen = 31#6 ∧
        u.size.toNat = min 2048 (s.decl.toNat - 2048 * k) ∧ u.slot.xtid = s.tid ∧ u.tid = s.tid ∧
        exec .bldImgreq u = .next u) ∧
      ∃ u, serveRequests chunks t = .next u ∧ u.err = .ok ∧ u.slot.active = false ∧ u.slot.complete = true ∧
        u.slot.xtid = s.tid ∧ u.slot.xdecl = s.decl ∧ u.slot.xwoff = s.decl ∧ u.txLen = 0#6

/-! ### The validity checker -/

/-- 45_validity.md R202, R203, R204: VAL.CHECK writes VOUT from VIN and VCFG by the correction and emit formulas, and nothing
else but STATUS.ERR. -/
def Obligations.ValCheckFollowsTheFormulas : Prop :=
  encode .valCheck = 0x50000000#32 ∧
  ∀ s : State,
    let sats := s.vin.extractLsb' 8 8
    let gpsStatus := s.vin.extractLsb' 16 8
    let sleepMode := s.vin.extractLsb' 24 8
    let corr := s.vin.getLsbD 0 = false ∧ sats = 0#8 ∧
      ((s.vin.getLsbD 2 = true ∧ gpsStatus = s.vcfg.extractLsb' 0 8) ∨
        (s.vin.getLsbD 3 = true ∧ (sleepMode = s.vcfg.extractLsb' 8 8 ∨ sleepMode = s.vcfg.extractLsb' 16 8)))
    ∃ t, exec .valCheck s = .next t ∧ t = { s with err := .ok, vout := t.vout } ∧
      (t.vout.corrected = true ↔ corr) ∧ (t.vout.valid = true ↔ s.vin.getLsbD 0 = true ∨ corr) ∧
      (t.vout.emit = true ↔
        s.vin.getLsbD 0 = true ∨ s.vin.getLsbD 1 = true ∨ s.vin.getLsbD 2 = true ∨ s.vin.getLsbD 3 = true)

/-- 45_validity.md R205, R206: the emit rule gives the same answer on the corrected validity, and where VALID is SATS ≠ 0 it
emits exactly the records with a satellite or an attribute. -/
def Obligations.EmitIsTheSameOnCorrectedValidity : Prop :=
  ∀ s t : State, exec .valCheck s = .next t →
    let hasAttr := s.vin.getLsbD 1 = true ∨ s.vin.getLsbD 2 = true ∨ s.vin.getLsbD 3 = true
    (t.vout.emit = true ↔ t.vout.valid = true ∨ hasAttr) ∧
    ((s.vin.getLsbD 0 = true ↔ s.vin.extractLsb' 8 8 ≠ 0#8) →
      (t.vout.emit = true ↔ s.vin.extractLsb' 8 8 ≠ 0#8 ∨ hasAttr))

/-! ### The whole machine -/

/-- Every command of every state completes with a next state, whatever its outcome (00_scope.md R11, 60_exceptions.md R233). That
no command writes the parameters is read from 10_state.md R47 (notes/assumptions/2.md), and that none, SRST included, moves the
host's side of the bus is the model's choice (notes/assumptions/1.md, notes/assumptions/13.md). -/
def Obligations.EveryCommandCompletes : Prop :=
  ∀ (i : Instr) (s : State), ∃ t, exec i s = .next t ∧ t.cfg = s.cfg ∧ t.pending = s.pending ∧ t.answers = s.answers

/-- 60_exceptions.md R233: a raised error writes STATUS.ERR, the parser's sticky ERROR state where it is the parser's, and
nothing else anywhere. -/
def Obligations.ErrorsArePrecise : Prop :=
  ∀ (i : Instr) (s t : State), exec i s = .next t → t.err ≠ .ok →
    t = { s with err := t.err, prs := t.prs } ∧ (t.prs ≠ s.prs → t.prs.pst = .error ∧
      (t.err = .truncated ∨ t.err = .unsupportedCodec))

/-- The frame of every command at once: which commands may change each register (10_state.md R24, R26, R34–R37, R44,
44_frame_builder.md R180, 42_transfer.md R140; SRST by 46_system.md R221). -/
def Obligations.OnlyItsWritersChangeARegister : Prop :=
  ∀ (i : Instr) (s t : State), exec i s = .next t → i ≠ .srst →
    (t.acc ≠ s.acc → i = .crcInit ∨ (∃ b, i = .crcByte b) ∨ i = .bldImgreq ∨ i = .xferInit ∨ ∃ n, i = .xferChunk n) ∧
    (t.prs ≠ s.prs → (∃ m, i = .prsStart m) ∨ (∃ b, i = .prsByte b) ∨ i = .prsEnd) ∧
    (t.off ≠ s.off ∨ t.size ≠ s.size ∨ t.slot ≠ s.slot → i = .xferInit ∨ ∃ n, i = .xferChunk n) ∧
    (t.tx ≠ s.tx ∨ t.txLen ≠ s.txLen → (∃ a, i = .bldIdack a) ∨ (∃ n, i = .bldTcpack n) ∨ (∃ l n, i = .bldUdpack l n) ∨
      i = .bldImgreq ∨ i = .xferInit ∨ ∃ n, i = .xferChunk n) ∧
    (t.vout ≠ s.vout → i = .valCheck) ∧
    t.tid = s.tid ∧ t.decl = s.decl ∧ t.vin = s.vin ∧ t.vcfg = s.vcfg

/-- The invariants hold after reset, under any parameters (10_state.md R50). -/
def Obligations.ResetMeetsTheInvariants : Prop :=
  Inv State.reset ∧ ∀ c : Config, Inv (State.powerOn c)

/-- Every step keeps the invariants of 10_state.md R50, with R38, R41 and the reserved bits of R42 and R43: from every state that
meets them, not only from runs of the reset state. -/
def Obligations.EveryStepKeepsTheInvariants : Prop :=
  ∀ s t : State, Inv s → step s = .next t → Inv t

/-- 10_state.md R26: PK stays inside the field being read, and is 0 outside one; it holds after reset and every step keeps it. -/
def Obligations.EveryStepKeepsTheByteIndexInRange : Prop :=
  ParserIndexInv State.reset.prs ∧ ∀ s t : State, ParserIndexInv s.prs → step s = .next t → ParserIndexInv t.prs

/-- 10_state.md R33: with TCP_DATA_LEN_BYTES = 0 the data-length word is never read, and PDLEN stays 0. -/
def Obligations.NoDataLengthWordKeepsPdlenZero : Prop :=
  ∀ s t : State, s.cfg.tcpDataLenBytes = 0 → s.prs.pdlen = 0#32 → s.prs.pst ≠ .tDlen → step s = .next t →
    t.prs.pdlen = 0#32 ∧ t.prs.pst ≠ .tDlen ∧ t.cfg.tcpDataLenBytes = 0

/-! ### The assembler's base lines -/

/-- 30_encoding.md R88: what a host program stands for. `WR` of a 32-bit value is a 32-bit write at the register's offset, `RD` a
32-bit read there, and a command is a write of its encoding to CMD. Every line's accesses come in the order of the lines, and a
command with an operand out of range stands for none: the whole program is in error. -/
def Obligations.BaseLinesAreTheirAccesses : Prop :=
  assemble [] = some [] ∧
  (∀ (r : Reg) (v : Word), assemble [.wr r v.toNat] = some [.write (regOffset r) 4 v]) ∧
  (∀ r : Reg, assemble [.rd r] = some [.read (regOffset r) 4]) ∧
  (∀ (c : SrcCommand) (i : Instr), assembleCommand c = some i →
    assemble [.command c] = some [.write 0x00 4 (encode i)]) ∧
  (∀ (c : SrcCommand), assembleCommand c = none → assemble [.command c] = none) ∧
  (∀ (m : Transport) (a : Bool),
    assembleCommand .nop = some .nop ∧ assembleCommand .srst = some .srst ∧ assembleCommand .crcInit = some .crcInit ∧
    assembleCommand (.prsStart m) = some (.prsStart m) ∧ assembleCommand .prsEnd = some .prsEnd ∧
    assembleCommand (.bldIdack a) = some (.bldIdack a) ∧ assembleCommand .bldImgreq = some .bldImgreq ∧
    assembleCommand .xferInit = some .xferInit ∧ assembleCommand .valCheck = some .valCheck) ∧
  ∀ p q : List SrcLine, assemble (p ++ q) = (assemble p).bind fun before => (assemble q).map fun after => before ++ after
end

