-- ==== Sys2Proof/Laws/State.lean ====
section
/-! SUPPORT. One lemma per field of `State` per shared update, so that no proof unfolds a record update: what the update writes,
and that it leaves every other field alone. -/

namespace Sys2Proof.Machine

/-! ### `State.ok` -/

@[simp] theorem State.ok_cfg (s : State) : (State.ok s).cfg = s.cfg := rfl
@[simp] theorem State.ok_err (s : State) : (State.ok s).err = .ok := rfl
@[simp] theorem State.ok_acc (s : State) : (State.ok s).acc = s.acc := rfl
@[simp] theorem State.ok_prs (s : State) : (State.ok s).prs = s.prs := rfl
@[simp] theorem State.ok_tid (s : State) : (State.ok s).tid = s.tid := rfl
@[simp] theorem State.ok_off (s : State) : (State.ok s).off = s.off := rfl
@[simp] theorem State.ok_size (s : State) : (State.ok s).size = s.size := rfl
@[simp] theorem State.ok_decl (s : State) : (State.ok s).decl = s.decl := rfl
@[simp] theorem State.ok_slot (s : State) : (State.ok s).slot = s.slot := rfl
@[simp] theorem State.ok_vin (s : State) : (State.ok s).vin = s.vin := rfl
@[simp] theorem State.ok_vcfg (s : State) : (State.ok s).vcfg = s.vcfg := rfl
@[simp] theorem State.ok_vout (s : State) : (State.ok s).vout = s.vout := rfl
@[simp] theorem State.ok_txLen (s : State) : (State.ok s).txLen = s.txLen := rfl
@[simp] theorem State.ok_tx (s : State) : (State.ok s).tx = s.tx := rfl
@[simp] theorem State.ok_pending (s : State) : (State.ok s).pending = s.pending := rfl
@[simp] theorem State.ok_answers (s : State) : (State.ok s).answers = s.answers := rfl

/-! ### `State.raise` -/

@[simp] theorem State.raise_cfg (e : Err) (s : State) : (State.raise e s).cfg = s.cfg := rfl
@[simp] theorem State.raise_err (e : Err) (s : State) : (State.raise e s).err = e := rfl
@[simp] theorem State.raise_acc (e : Err) (s : State) : (State.raise e s).acc = s.acc := rfl
@[simp] theorem State.raise_prs (e : Err) (s : State) : (State.raise e s).prs = s.prs := rfl
@[simp] theorem State.raise_tid (e : Err) (s : State) : (State.raise e s).tid = s.tid := rfl
@[simp] theorem State.raise_off (e : Err) (s : State) : (State.raise e s).off = s.off := rfl
@[simp] theorem State.raise_size (e : Err) (s : State) : (State.raise e s).size = s.size := rfl
@[simp] theorem State.raise_decl (e : Err) (s : State) : (State.raise e s).decl = s.decl := rfl
@[simp] theorem State.raise_slot (e : Err) (s : State) : (State.raise e s).slot = s.slot := rfl
@[simp] theorem State.raise_vin (e : Err) (s : State) : (State.raise e s).vin = s.vin := rfl
@[simp] theorem State.raise_vcfg (e : Err) (s : State) : (State.raise e s).vcfg = s.vcfg := rfl
@[simp] theorem State.raise_vout (e : Err) (s : State) : (State.raise e s).vout = s.vout := rfl
@[simp] theorem State.raise_txLen (e : Err) (s : State) : (State.raise e s).txLen = s.txLen := rfl
@[simp] theorem State.raise_tx (e : Err) (s : State) : (State.raise e s).tx = s.tx := rfl
@[simp] theorem State.raise_pending (e : Err) (s : State) : (State.raise e s).pending = s.pending := rfl
@[simp] theorem State.raise_answers (e : Err) (s : State) : (State.raise e s).answers = s.answers := rfl

/-! ### `State.resetRegisters` -/

@[simp] theorem State.resetRegisters_cfg (s : State) : (State.resetRegisters s).cfg = s.cfg := rfl
@[simp] theorem State.resetRegisters_err (s : State) : (State.resetRegisters s).err = .ok := rfl
@[simp] theorem State.resetRegisters_acc (s : State) : (State.resetRegisters s).acc = acc0 s.cfg := rfl
@[simp] theorem State.resetRegisters_prs (s : State) : (State.resetRegisters s).prs = Parser.cleared := rfl
@[simp] theorem State.resetRegisters_tid (s : State) : (State.resetRegisters s).tid = 0#32 := rfl
@[simp] theorem State.resetRegisters_off (s : State) : (State.resetRegisters s).off = 0#32 := rfl
@[simp] theorem State.resetRegisters_size (s : State) : (State.resetRegisters s).size = 0#16 := rfl
@[simp] theorem State.resetRegisters_decl (s : State) : (State.resetRegisters s).decl = 0#32 := rfl
@[simp] theorem State.resetRegisters_slot (s : State) : (State.resetRegisters s).slot = Slot.free := rfl
@[simp] theorem State.resetRegisters_vin (s : State) : (State.resetRegisters s).vin = 0#32 := rfl
@[simp] theorem State.resetRegisters_vcfg (s : State) : (State.resetRegisters s).vcfg = vcfgReset s.cfg := rfl
@[simp] theorem State.resetRegisters_vout (s : State) : (State.resetRegisters s).vout = ⟨false, false, false⟩ := rfl
@[simp] theorem State.resetRegisters_txLen (s : State) : (State.resetRegisters s).txLen = 0#6 := rfl
@[simp] theorem State.resetRegisters_tx (s : State) : (State.resetRegisters s).tx = Vector.replicate 32 0#8 := rfl
@[simp] theorem State.resetRegisters_pending (s : State) : (State.resetRegisters s).pending = s.pending := rfl
@[simp] theorem State.resetRegisters_answers (s : State) : (State.resetRegisters s).answers = s.answers := rfl

/-! ### `State.setFrame` -/

@[simp] theorem State.setFrame_cfg (f : List Byte) (s : State) : (State.setFrame f s).cfg = s.cfg := rfl
@[simp] theorem State.setFrame_err (f : List Byte) (s : State) : (State.setFrame f s).err = s.err := rfl
@[simp] theorem State.setFrame_acc (f : List Byte) (s : State) : (State.setFrame f s).acc = s.acc := rfl
@[simp] theorem State.setFrame_prs (f : List Byte) (s : State) : (State.setFrame f s).prs = s.prs := rfl
@[simp] theorem State.setFrame_tid (f : List Byte) (s : State) : (State.setFrame f s).tid = s.tid := rfl
@[simp] theorem State.setFrame_off (f : List Byte) (s : State) : (State.setFrame f s).off = s.off := rfl
@[simp] theorem State.setFrame_size (f : List Byte) (s : State) : (State.setFrame f s).size = s.size := rfl
@[simp] theorem State.setFrame_decl (f : List Byte) (s : State) : (State.setFrame f s).decl = s.decl := rfl
@[simp] theorem State.setFrame_slot (f : List Byte) (s : State) : (State.setFrame f s).slot = s.slot := rfl
@[simp] theorem State.setFrame_vin (f : List Byte) (s : State) : (State.setFrame f s).vin = s.vin := rfl
@[simp] theorem State.setFrame_vcfg (f : List Byte) (s : State) : (State.setFrame f s).vcfg = s.vcfg := rfl
@[simp] theorem State.setFrame_vout (f : List Byte) (s : State) : (State.setFrame f s).vout = s.vout := rfl
@[simp] theorem State.setFrame_txLen (f : List Byte) (s : State) : (State.setFrame f s).txLen = BitVec.ofNat 6 f.length := rfl
@[simp] theorem State.setFrame_tx (f : List Byte) (s : State) : (State.setFrame f s).tx = txOfFrame f := rfl
@[simp] theorem State.setFrame_pending (f : List Byte) (s : State) : (State.setFrame f s).pending = s.pending := rfl
@[simp] theorem State.setFrame_answers (f : List Byte) (s : State) : (State.setFrame f s).answers = s.answers := rfl

/-! ### `State.buildImgreq` -/

@[simp] theorem State.buildImgreq_cfg (tid off : Word) (size : Half) (s : State) : (State.buildImgreq tid off size s).cfg = s.cfg := rfl
@[simp] theorem State.buildImgreq_err (tid off : Word) (size : Half) (s : State) : (State.buildImgreq tid off size s).err = s.err := rfl
@[simp] theorem State.buildImgreq_acc (tid off : Word) (size : Half) (s : State) : (State.buildImgreq tid off size s).acc = imgreqAcc s.cfg tid off size := rfl
@[simp] theorem State.buildImgreq_prs (tid off : Word) (size : Half) (s : State) : (State.buildImgreq tid off size s).prs = s.prs := rfl
@[simp] theorem State.buildImgreq_tid (tid off : Word) (size : Half) (s : State) : (State.buildImgreq tid off size s).tid = s.tid := rfl
@[simp] theorem State.buildImgreq_off (tid off : Word) (size : Half) (s : State) : (State.buildImgreq tid off size s).off = s.off := rfl
@[simp] theorem State.buildImgreq_size (tid off : Word) (size : Half) (s : State) : (State.buildImgreq tid off size s).size = s.size := rfl
@[simp] theorem State.buildImgreq_decl (tid off : Word) (size : Half) (s : State) : (State.buildImgreq tid off size s).decl = s.decl := rfl
@[simp] theorem State.buildImgreq_slot (tid off : Word) (size : Half) (s : State) : (State.buildImgreq tid off size s).slot = s.slot := rfl
@[simp] theorem State.buildImgreq_vin (tid off : Word) (size : Half) (s : State) : (State.buildImgreq tid off size s).vin = s.vin := rfl
@[simp] theorem State.buildImgreq_vcfg (tid off : Word) (size : Half) (s : State) : (State.buildImgreq tid off size s).vcfg = s.vcfg := rfl
@[simp] theorem State.buildImgreq_vout (tid off : Word) (size : Half) (s : State) : (State.buildImgreq tid off size s).vout = s.vout := rfl
@[simp] theorem State.buildImgreq_txLen (tid off : Word) (size : Half) (s : State) : (State.buildImgreq tid off size s).txLen = 31#6 := rfl
@[simp] theorem State.buildImgreq_tx (tid off : Word) (size : Half) (s : State) : (State.buildImgreq tid off size s).tx = txOfFrame (imgreqFrame s.cfg tid off size) := rfl
@[simp] theorem State.buildImgreq_pending (tid off : Word) (size : Half) (s : State) : (State.buildImgreq tid off size s).pending = s.pending := rfl
@[simp] theorem State.buildImgreq_answers (tid off : Word) (size : Half) (s : State) : (State.buildImgreq tid off size s).answers = s.answers := rfl

/-! ### `State.requestChunk` -/

@[simp] theorem State.requestChunk_cfg (tid off : Word) (size : Half) (s : State) : (State.requestChunk tid off size s).cfg = s.cfg := rfl
@[simp] theorem State.requestChunk_err (tid off : Word) (size : Half) (s : State) : (State.requestChunk tid off size s).err = s.err := rfl
@[simp] theorem State.requestChunk_acc (tid off : Word) (size : Half) (s : State) : (State.requestChunk tid off size s).acc = imgreqAcc s.cfg tid off size := rfl
@[simp] theorem State.requestChunk_prs (tid off : Word) (size : Half) (s : State) : (State.requestChunk tid off size s).prs = s.prs := rfl
@[simp] theorem State.requestChunk_tid (tid off : Word) (size : Half) (s : State) : (State.requestChunk tid off size s).tid = s.tid := rfl
@[simp] theorem State.requestChunk_off (tid off : Word) (size : Half) (s : State) : (State.requestChunk tid off size s).off = off := rfl
@[simp] theorem State.requestChunk_size (tid off : Word) (size : Half) (s : State) : (State.requestChunk tid off size s).size = size := rfl
@[simp] theorem State.requestChunk_decl (tid off : Word) (size : Half) (s : State) : (State.requestChunk tid off size s).decl = s.decl := rfl
@[simp] theorem State.requestChunk_slot (tid off : Word) (size : Half) (s : State) : (State.requestChunk tid off size s).slot = s.slot := rfl
@[simp] theorem State.requestChunk_vin (tid off : Word) (size : Half) (s : State) : (State.requestChunk tid off size s).vin = s.vin := rfl
@[simp] theorem State.requestChunk_vcfg (tid off : Word) (size : Half) (s : State) : (State.requestChunk tid off size s).vcfg = s.vcfg := rfl
@[simp] theorem State.requestChunk_vout (tid off : Word) (size : Half) (s : State) : (State.requestChunk tid off size s).vout = s.vout := rfl
@[simp] theorem State.requestChunk_txLen (tid off : Word) (size : Half) (s : State) : (State.requestChunk tid off size s).txLen = 31#6 := rfl
@[simp] theorem State.requestChunk_tx (tid off : Word) (size : Half) (s : State) : (State.requestChunk tid off size s).tx = txOfFrame (imgreqFrame s.cfg tid off size) := rfl
@[simp] theorem State.requestChunk_pending (tid off : Word) (size : Half) (s : State) : (State.requestChunk tid off size s).pending = s.pending := rfl
@[simp] theorem State.requestChunk_answers (tid off : Word) (size : Half) (s : State) : (State.requestChunk tid off size s).answers = s.answers := rfl

/-! ### `State.withParser` -/

@[simp] theorem State.withParser_cfg (r : Parser × Err) (s : State) : (State.withParser r s).cfg = s.cfg := rfl
@[simp] theorem State.withParser_err (r : Parser × Err) (s : State) : (State.withParser r s).err = r.2 := rfl
@[simp] theorem State.withParser_acc (r : Parser × Err) (s : State) : (State.withParser r s).acc = s.acc := rfl
@[simp] theorem State.withParser_prs (r : Parser × Err) (s : State) : (State.withParser r s).prs = r.1 := rfl
@[simp] theorem State.withParser_tid (r : Parser × Err) (s : State) : (State.withParser r s).tid = s.tid := rfl
@[simp] theorem State.withParser_off (r : Parser × Err) (s : State) : (State.withParser r s).off = s.off := rfl
@[simp] theorem State.withParser_size (r : Parser × Err) (s : State) : (State.withParser r s).size = s.size := rfl
@[simp] theorem State.withParser_decl (r : Parser × Err) (s : State) : (State.withParser r s).decl = s.decl := rfl
@[simp] theorem State.withParser_slot (r : Parser × Err) (s : State) : (State.withParser r s).slot = s.slot := rfl
@[simp] theorem State.withParser_vin (r : Parser × Err) (s : State) : (State.withParser r s).vin = s.vin := rfl
@[simp] theorem State.withParser_vcfg (r : Parser × Err) (s : State) : (State.withParser r s).vcfg = s.vcfg := rfl
@[simp] theorem State.withParser_vout (r : Parser × Err) (s : State) : (State.withParser r s).vout = s.vout := rfl
@[simp] theorem State.withParser_txLen (r : Parser × Err) (s : State) : (State.withParser r s).txLen = s.txLen := rfl
@[simp] theorem State.withParser_tx (r : Parser × Err) (s : State) : (State.withParser r s).tx = s.tx := rfl
@[simp] theorem State.withParser_pending (r : Parser × Err) (s : State) : (State.withParser r s).pending = s.pending := rfl
@[simp] theorem State.withParser_answers (r : Parser × Err) (s : State) : (State.withParser r s).answers = s.answers := rfl

/-! ### The state after power-on -/

@[simp] theorem State.powerOn_cfg (c : Config) : (State.powerOn c).cfg = c := rfl
@[simp] theorem State.powerOn_err (c : Config) : (State.powerOn c).err = .ok := rfl
@[simp] theorem State.powerOn_acc (c : Config) : (State.powerOn c).acc = acc0 c := rfl
@[simp] theorem State.powerOn_prs (c : Config) : (State.powerOn c).prs = Parser.cleared := rfl
@[simp] theorem State.powerOn_tid (c : Config) : (State.powerOn c).tid = 0#32 := rfl
@[simp] theorem State.powerOn_off (c : Config) : (State.powerOn c).off = 0#32 := rfl
@[simp] theorem State.powerOn_size (c : Config) : (State.powerOn c).size = 0#16 := rfl
@[simp] theorem State.powerOn_decl (c : Config) : (State.powerOn c).decl = 0#32 := rfl
@[simp] theorem State.powerOn_slot (c : Config) : (State.powerOn c).slot = Slot.free := rfl
@[simp] theorem State.powerOn_vin (c : Config) : (State.powerOn c).vin = 0#32 := rfl
@[simp] theorem State.powerOn_vcfg (c : Config) : (State.powerOn c).vcfg = vcfgReset c := rfl
@[simp] theorem State.powerOn_vout (c : Config) : (State.powerOn c).vout = ⟨false, false, false⟩ := rfl
@[simp] theorem State.powerOn_txLen (c : Config) : (State.powerOn c).txLen = 0#6 := rfl
@[simp] theorem State.powerOn_tx (c : Config) : (State.powerOn c).tx = Vector.replicate 32 0#8 := rfl
@[simp] theorem State.powerOn_pending (c : Config) : (State.powerOn c).pending = [] := rfl
@[simp] theorem State.powerOn_answers (c : Config) : (State.powerOn c).answers = [] := rfl

end Sys2Proof.Machine
end

