-- ==== Sys2Proof/Laws/Ops.lean ====
section
/-! SUPPORT. What each shared operation can do, said once: the frame buffer, the image request, and the inversion of `runCommand`,
`perform` and `step`. -/

namespace Sys2Proof.Machine

/-! ### Frames -/

/-- A byte of TXBUF after a build: the frame's byte, or 0 beyond its end. -/
@[simp] theorem txOfFrame_getElem (f : List Byte) (i : Nat) (h : i < 32) : (txOfFrame f)[i] = f.getD i 0#8 := by
  simp [txOfFrame]

/-- The whole of TXBUF after a build: the frame, then zeros. -/
theorem txOfFrame_toList (f : List Byte) (h : f.length ≤ 32) :
    (txOfFrame f).toList = f ++ List.replicate (32 - f.length) 0#8 := by
  apply List.ext_getElem
  · simp; omega
  · intro i h₁ h₂
    have hi : i < 32 := by simpa using h₁
    rw [Vector.getElem_toList, txOfFrame_getElem, List.getElem_append]
    split
    · next hl => simp [hl]
    · next hl => simp [Nat.le_of_not_lt hl]

@[simp] theorem be2_length (v : Half) : (be2 v).length = 2 := rfl

@[simp] theorem be4_length (v : Word) : (be4 v).length = 4 := rfl

@[simp] theorem imgreqBody_length (tid off : Word) (size : Half) : (imgreqBody tid off size).length = 29 := rfl

@[simp] theorem imgreqFrame_length (c : Config) (tid off : Word) (size : Half) :
    (imgreqFrame c tid off size).length = 31 := rfl

/-! ### The CRC over byte sequences -/

@[simp] theorem crcRun_nil (c : Config) (acc : Half) : crcRun c acc [] = acc := rfl

@[simp] theorem crcRun_cons (c : Config) (acc : Half) (b : Byte) (bytes : List Byte) :
    crcRun c acc (b :: bytes) = crcRun c (crcStep c acc b) bytes := rfl

@[simp] theorem crcRun_append (c : Config) (acc : Half) (xs ys : List Byte) :
    crcRun c acc (xs ++ ys) = crcRun c (crcRun c acc xs) ys := by
  simp [crcRun]

/-! ### The parser, by its state -/

theorem parserByte_of_closed {c : Config} {b : Byte} {p : Parser} (h : parserClosed p.pst = true) :
    parserByte c b p = (p, .parserClosed) := by
  unfold parserByte parserClosed at *
  split at h <;> simp_all

/-- A parser command that raises PARSER_CLOSED has found no frame open, and has changed nothing. -/
theorem parserByte_closed_iff {c : Config} {b : Byte} {p : Parser} :
    (parserByte c b p).2 = .parserClosed ↔ parserClosed p.pst = true := by
  unfold parserByte parserClosed byteCodec
  cases p.pst <;> simp
  split <;> simp

theorem parserEnd_cases (p : Parser) :
    (parserClosed p.pst = true ∧ parserEnd p = (p, .parserClosed)) ∨
      (parserAccepting p.pst = true ∧ parserEnd p = ({ p with pst := .closed }, .ok)) ∨
        (parserClosed p.pst = false ∧ parserAccepting p.pst = false ∧
          parserEnd p = ({ p with perr := .truncated, pk := 0#4, prem := 0#16, pst := .error }, .truncated)) := by
  unfold parserEnd
  cases h : p.pst <;> simp [parserClosed, parserAccepting]

/-! ### The transfer slot -/

/-- What XFER.CHUNK can do: report an unknown transfer, report a chunk beyond the capacity, or count it. -/
theorem execXferChunk_cases (len : Half) (s : State) :
    ((s.slot.active = false ∨ s.tid ≠ s.slot.xtid) ∧ execXferChunk len s = .next (s.raise .unknownTransfer)) ∨
      (s.slot.active = true ∧ s.tid = s.slot.xtid ∧
        ((remaining s.slot.xdecl s.slot.xwoff < len.setWidth 32 ∧
            execXferChunk len s = .next (s.raise .capacityExceeded)) ∨
          (¬remaining s.slot.xdecl s.slot.xwoff < len.setWidth 32 ∧
            execXferChunk len s = .next (chunkAccepted len s)))) := by
  unfold execXferChunk
  by_cases hk : s.slot.active = false ∨ s.tid ≠ s.slot.xtid
  · exact .inl ⟨hk, by rw [if_pos hk]⟩
  · have hk' := hk
    rw [not_or, Bool.not_eq_false, not_not] at hk
    refine .inr ⟨hk.1, hk.2, ?_⟩
    rw [if_neg hk']
    by_cases hc : remaining s.slot.xdecl s.slot.xwoff < len.setWidth 32
    · exact .inl ⟨hc, by rw [if_pos hc]⟩
    · exact .inr ⟨hc, by rw [if_neg hc]⟩

/-- A counted chunk either completes the transfer and clears the frame, or builds the next request. -/
theorem chunkAccepted_cases (len : Half) (s : State) :
    (s.slot.xwoff + len.setWidth 32 = s.slot.xdecl ∧
      chunkAccepted len s =
        State.setFrame []
          { s.ok with slot := ⟨false, true, s.slot.xtid, s.slot.xdecl, s.slot.xwoff + len.setWidth 32⟩ }) ∨
      (s.slot.xwoff + len.setWidth 32 ≠ s.slot.xdecl ∧
        chunkAccepted len s =
          State.requestChunk s.slot.xtid (s.slot.xwoff + len.setWidth 32)
            (nextSize s.slot.xdecl (s.slot.xwoff + len.setWidth 32))
            { s.ok with slot := { s.slot with xwoff := s.slot.xwoff + len.setWidth 32 } }) := by
  unfold chunkAccepted slotAdvanced
  by_cases h : s.slot.xwoff + len.setWidth 32 = s.slot.xdecl
  · exact .inl ⟨h, by simp [h]⟩
  · exact .inr ⟨h, by simp [h]⟩

/-- The remaining capacity as a number, where the write offset has not passed the declared size. -/
theorem remaining_toNat {decl woff : Word} (h : woff ≤ decl) :
    (remaining decl woff).toNat = decl.toNat - woff.toNat :=
  BitVec.toNat_sub_of_le h

/-! ### Events and steps -/

/-- What a write to CMD can do: run the one command the word stands for, or report an illegal word. -/
theorem runCommand_cases {w : Word} {s : State} {o : Host.Outcome State Fault Refusal} (h : runCommand w s = o) :
    (∃ i, decode w = .ok i ∧ exec i s = o) ∨ ((∃ e, decode w = .error e) ∧ o = .next (s.raise .illegalCommand)) := by
  unfold runCommand at h
  split at h
  · exact .inl ⟨_, by assumption, h⟩
  · exact .inr ⟨⟨_, by assumption⟩, h.symm⟩

/-- What one event can do, if it answers a next state. -/
theorem perform_cases {e : Event} {s t : State} (h : perform e s = .next t) :
    (∃ off size, e = .read off size ∧ admitted off size = true ∧ t = { s with answers := readWindow off s :: s.answers }) ∨
      (∃ off size w, e = .write off size w ∧ admitted off size = true ∧ regAt off = some .cmd ∧ runCommand w s = .next t) ∨
        (∃ off size w r, e = .write off size w ∧ admitted off size = true ∧ regAt off = some r ∧ r ≠ .cmd ∧
          t = writeReg r w s) ∨
          (∃ off size w, e = .write off size w ∧ admitted off size = true ∧ regAt off = none ∧ t = s) ∨
            (e = .platformReset ∧ t = s.resetRegisters) := by
  cases e with
  | read off size =>
    simp only [perform, performRead] at h
    split at h
    · next ha => exact .inl ⟨off, size, rfl, ha, by simpa using h.symm⟩
    · cases h
  | write off size w =>
    simp only [perform, performWrite] at h
    split at h
    · next ha =>
      split at h
      · next hr => exact .inr (.inl ⟨off, size, w, rfl, ha, hr, h⟩)
      · next r hne hr =>
        refine .inr (.inr (.inl ⟨off, size, w, r, rfl, ha, hr, ?_, by simpa using h.symm⟩))
        rintro rfl
        exact hne rfl
      · next hr => exact .inr (.inr (.inr (.inl ⟨off, size, w, rfl, ha, hr, by simpa using h.symm⟩)))
    · cases h
  | platformReset => exact .inr (.inr (.inr (.inr ⟨rfl, by simpa [perform] using h.symm⟩)))

/-- What one step can do, if it answers a next state: nothing with no event pending, or the oldest event. -/
theorem step_cases {s t : State} (h : step s = .next t) :
    s.cfg.wellFormed = true ∧
      ((s.pending = [] ∧ t = s) ∨ ∃ e rest, s.pending = e :: rest ∧ perform e { s with pending := rest } = .next t) := by
  unfold step at h
  split at h
  · next hc =>
    refine ⟨hc, ?_⟩
    split at h
    · next hp => exact .inl ⟨hp, by simpa using h.symm⟩
    · next e rest hp => exact .inr ⟨e, rest, hp, h⟩
  · cases h

end Sys2Proof.Machine
end

