-- ==== Sys2Proof/Laws/PerInstr.lean ====
section
/-! SUPPORT. Statements about every instruction as syntax, proved constructor by constructor. -/

namespace Sys2Proof.Laws.TableRow

/-- The word of an instruction matches the row of 30_encoding.md R83 that carries its mnemonic. -/
def Statement (i : Instr) : Prop :=
  ∃ r ∈ opcodeTable, r.mnemonic = i.mnemonic ∧ encode i &&& r.mask = r.pattern

theorem nop : Statement .nop := ⟨⟨"NOP", 0x00000000#32, 0xFFFFFFFF#32⟩, by decide⟩

theorem srst : Statement .srst := ⟨⟨"SRST", 0x01000000#32, 0xFFFFFFFF#32⟩, by decide⟩

theorem crcInit : Statement .crcInit := ⟨⟨"CRC.INIT", 0x10000000#32, 0xFFFFFFFF#32⟩, by decide⟩

theorem crcByte (b : Byte) : Statement (.crcByte b) :=
  ⟨⟨"CRC.BYTE", 0x11000000#32, 0xFFFFFF00#32⟩, by decide, rfl, by revert b; decide⟩

theorem prsStart (m : Transport) : Statement (.prsStart m) :=
  ⟨⟨"PRS.START", 0x20000000#32, 0xFFFFFFFE#32⟩, by decide, rfl, by cases m <;> decide⟩

theorem prsByte (b : Byte) : Statement (.prsByte b) :=
  ⟨⟨"PRS.BYTE", 0x21000000#32, 0xFFFFFF00#32⟩, by decide, rfl, by revert b; decide⟩

theorem prsEnd : Statement .prsEnd := ⟨⟨"PRS.END", 0x22000000#32, 0xFFFFFFFF#32⟩, by decide⟩

theorem bldIdack (a : Bool) : Statement (.bldIdack a) :=
  ⟨⟨"BLD.IDACK", 0x30000000#32, 0xFFFFFFFE#32⟩, by decide, rfl, by cases a <;> decide⟩

theorem bldTcpack (n : Byte) : Statement (.bldTcpack n) :=
  ⟨⟨"BLD.TCPACK", 0x31000000#32, 0xFFFFFF00#32⟩, by decide, rfl, by revert n; decide⟩

/-- A 16-bit operand field does not reach the bits a mask of the upper half keeps. -/
theorem upper_of_append (op : Byte) (x : Half) :
    (op ++ 0#8 ++ x : Word) &&& 0xFFFF0000#32 = op ++ 0#8 ++ 0#16 := by
  have h : (0xFFFF0000#32) = BitVec.allOnes 8 ++ BitVec.allOnes 8 ++ 0#16 := by decide
  rw [h, BitVec.and_append, BitVec.and_append, BitVec.and_allOnes, BitVec.and_zero, BitVec.zero_and]

theorem bldUdpack (loc n : Byte) : Statement (.bldUdpack loc n) :=
  ⟨⟨"BLD.UDPACK", 0x32000000#32, 0xFFFF0000#32⟩, by decide, rfl, upper_of_append 0x32#8 (loc ++ n)⟩

theorem bldImgreq : Statement .bldImgreq := ⟨⟨"BLD.IMGREQ", 0x33000000#32, 0xFFFFFFFF#32⟩, by decide⟩

theorem xferInit : Statement .xferInit := ⟨⟨"XFER.INIT", 0x40000000#32, 0xFFFFFFFF#32⟩, by decide⟩

theorem xferChunk (len : Half) : Statement (.xferChunk len) :=
  ⟨⟨"XFER.CHUNK", 0x41000000#32, 0xFFFF0000#32⟩, by decide, rfl, upper_of_append 0x41#8 len⟩

theorem valCheck : Statement .valCheck := ⟨⟨"VAL.CHECK", 0x50000000#32, 0xFFFFFFFF#32⟩, by decide⟩

end Sys2Proof.Laws.TableRow
end

