-- ==== Sys2Proof/Tests/Slice0.lean ====
section
/-! SUPPORT. Tests: what WellFormed refuses, decoding of words written out from the spec, one or two steps per command with results
from 95_test_vectors.md, and a witness that meets the hypotheses of each statement that has some. -/

open Sys2Proof Sys2Proof.Machine

namespace Sys2Proof.Tests

/-! ### Small states -/

/-- Parameters with the OPEN values set as 95_test_vectors.md's conventions set them: sleep codes 1 and 2. -/
def params (regionLast dataLen : Nat) : Config :=
  { Config.default with
    basePage := 0, sleepCodeGpsRst := 1#8, sleepCodeDeepRst := 2#8, crcRegionLast := regionLast, tcpDataLenBytes := dataLen }

/-- A block just reset, under the default parameters. -/
def board : State := State.powerOn (params 25 0)

/-- A block whose parser is in a given state, at a given byte of the field. -/
def parserAt (pst : ParserState) (pk : BitVec 4) : State :=
  { board with prs := { Parser.cleared with pst := pst, pk := pk } }

/-- A block with transfer 1 in progress: 3000 bytes declared, `woff` received. -/
def transferAt (woff : Word) : State :=
  { board with tid := 1#32, decl := 3000#32, slot := ⟨true, false, 1#32, 3000#32, woff⟩ }

/-- The command completes, and the next state passes a check. -/
def after (o : Host.Outcome State Fault Refusal) (check : State → Bool) : Bool :=
  match o with
  | .next t => check t
  | .fault _ => false
  | .refused _ => false

/-- The registers listed read these values. -/
def shows (t : State) (values : List (Reg × Word)) : Bool := values.all fun v => readReg v.1 t == v.2

/-! ### WellFormed: each check refuses an ill-formed term -/

theorem test_region_27_refused : (params 27 0).wellFormed = false := by decide

theorem test_region_24_refused : (params 24 0).wellFormed = false := by decide

theorem test_data_len_2_refused : (params 25 2).wellFormed = false := by decide

theorem test_the_four_allowed_parameter_sets :
    ((params 25 0).wellFormed && (params 26 0).wellFormed && (params 25 4).wellFormed && (params 26 4).wellFormed) = true := by
  decide

theorem test_crc_operand_256_refused : (SrcCommand.crcByte 256).wellFormed = false := by decide

theorem test_parser_operand_256_refused : (SrcCommand.prsByte 256).wellFormed = false := by decide

theorem test_count_256_refused : (SrcCommand.bldTcpack 256).wellFormed = false := by decide

theorem test_location_256_refused : (SrcCommand.bldUdpack 256 0).wellFormed = false := by decide

theorem test_udp_count_256_refused : (SrcCommand.bldUdpack 0 256).wellFormed = false := by decide

theorem test_len_65536_refused : (SrcCommand.xferChunk 65536).wellFormed = false := by decide

theorem test_item_256_refused : (SrcItem.num 256).wellFormed = false := by decide

theorem test_non_ascii_refused : (SrcItem.text "é").wellFormed = false := by decide

theorem test_wide_values_refused :
    [SrcLine.wr .tid 4294967296, .crcBuf [.num 256], .prsFeed [.num 256], .prsFrame .tcp [.num 256],
      .imgreq 4294967296 0 0, .imgreq 0 4294967296 0, .imgreq 0 0 4294967296, .xferStart 4294967296 0,
      .xferStart 0 4294967296, .xferRecv 4294967296 0, .xferRecv 0 65536, .val 4294967296].all
        (fun l => !l.wellFormed) = true := by decide

theorem test_ill_formed_parameters_stop_the_step :
    step (State.powerOn (params 27 0)) = .refused .badConfiguration := rfl

/-- 95_test_vectors.md V-M1: the three accesses that are not admitted, and the first address past the window. -/
theorem test_unadmitted_accesses_stop :
    performRead 0x04 1 board = .fault .busError ∧ performWrite 0x30 2 0#32 board = .fault .busError ∧
      performRead 0x06 4 board = .fault .busError ∧ performRead 0x100 4 board = .fault .outsideWindow :=
  ⟨rfl, rfl, rfl, rfl⟩

/-! ### Decoding: words of 30_encoding.md R88, and the illegal words of V-S3 -/

theorem test_decode_control : decode 0x00000000#32 = .ok .nop ∧ decode 0x01000000#32 = .ok .srst := by decide

theorem test_decode_crc : decode 0x10000000#32 = .ok .crcInit ∧ decode 0x11000031#32 = .ok (.crcByte 0x31#8) := by decide

theorem test_decode_parser :
    decode 0x20000000#32 = .ok (.prsStart .tcp) ∧ decode 0x20000001#32 = .ok (.prsStart .udp) ∧
      decode 0x21000008#32 = .ok (.prsByte 0x08#8) ∧ decode 0x22000000#32 = .ok .prsEnd := by decide

theorem test_decode_builder :
    decode 0x30000001#32 = .ok (.bldIdack true) ∧ decode 0x30000000#32 = .ok (.bldIdack false) ∧
      decode 0x31000002#32 = .ok (.bldTcpack 0x02#8) ∧ decode 0x32000201#32 = .ok (.bldUdpack 0x02#8 0x01#8) ∧
        decode 0x33000000#32 = .ok .bldImgreq := by decide

theorem test_decode_transfer :
    decode 0x40000000#32 = .ok .xferInit ∧ decode 0x41000800#32 = .ok (.xferChunk 0x0800#16) := by decide

theorem test_decode_validity : decode 0x50000000#32 = .ok .valCheck := by decide

theorem test_unused_opcodes_are_illegal :
    [0x02000000#32, 0x12000000#32, 0x23000000#32, 0x34000000#32, 0x42000000#32, 0x51000000#32, 0xFF000000#32].all
      (fun w => decide (decode w = .error .unknownOpcode)) = true := by decide

theorem test_reserved_bits_are_illegal : decode 0x00010000#32 = .error .reservedBits := by decide

theorem test_unused_operand_bits_are_illegal :
    [0x00000001#32, 0x10000001#32, 0x11000100#32, 0x20000002#32, 0x21000100#32, 0x22000001#32, 0x30000002#32,
      0x31000100#32, 0x33000001#32, 0x40000001#32, 0x50000001#32].all
        (fun w => decide (decode w = .error .operandBits)) = true := by decide

/-- Every row's word of R88, put where the next step takes its command, runs as the first command after reset. -/
theorem test_every_command_runs_after_reset :
    [0x00000000, 0x01000000, 0x10000000, 0x11000031, 0x20000001, 0x21000008, 0x22000000, 0x30000001, 0x31000002,
      0x32000201, 0x33000000, 0x40000000, 0x41000800, 0x50000000].all
        (fun w => after (step (State.reset.withFetchWord 32 w)) fun t => t.pending == []) = true := by decide +kernel

/-! ### Commands: results of 95_test_vectors.md -/

/-- V-S1. -/
theorem test_nop_clears_status :
    after (exec .nop { board with err := .parserClosed }) (shows · [(.status, 0#32)]) = true := by decide

/-- V-S2. -/
theorem test_srst_frees_the_slot :
    after (exec .srst { transferAt 3000#32 with acc := 0xBB3D#16, vcfg := 0#32 })
      (shows · [(.xstat, 0#32), (.crcacc, 0#32), (.tid, 0#32), (.vcfg, 0x00020103#32)]) = true := by decide

/-- V-C7. -/
theorem test_crc_init_reloads :
    after (exec .crcInit { board with acc := 0xBB3D#16 }) (shows · [(.crcacc, 0#32), (.crcval, 0#32)]) = true := by decide

/-- V-C3, the first two bytes of the check string. -/
theorem test_crc_byte_steps :
    after (exec (.crcByte 0x31#8) board) (shows · [(.crcacc, 0xD4C1#32)]) = true ∧
      after (exec (.crcByte 0x32#8) { board with acc := 0xD4C1#16 }) (shows · [(.crcacc, 0x4594#32)]) = true := by decide +kernel

/-- The ASCII bytes of "123456789" (V-C3). -/
def checkString : List Byte := [0x31#8, 0x32#8, 0x33#8, 0x34#8, 0x35#8, 0x36#8, 0x37#8, 0x38#8, 0x39#8]

/-- V-C3, 43_crc16.md R166. -/
theorem test_crc_check_value : crc16 (params 25 0) checkString = 0xBB3D#16 := by decide +kernel

/-- V-C6, its second, third and fifth rows. -/
theorem test_crc_parameters_are_live :
    crc16 { params 25 0 with crcXorOut := 0xFFFF#16 } checkString = 0x44C2#16 ∧
      crc16 { params 25 0 with crcRefOut := false } checkString = 0xBCDD#16 ∧
        crc16 { params 25 0 with crcPoly := 0x1021#16, crcInit := 0xFFFF#16, crcRefIn := false, crcRefOut := false }
          checkString = 0x29B1#16 := by decide +kernel

/-- V-P6: PRS.START udp from ERROR. -/
theorem test_prs_start_clears_the_error :
    after (exec (.prsStart .udp) { board with prs := { Parser.cleared with pst := .error, kind := .data, perr := .unsupportedCodec } })
      (shows · [(.status, 0#32), (.pstat, 0x00000055#32), (.ppos, 0#32)]) = true := by decide

/-- V-P1: the second byte of the leading field. -/
theorem test_prs_byte_opens_a_handshake :
    after (exec (.prsByte 0x0F#8) { board with prs := { Parser.cleared with pst := .tLead, pk := 1#4, ppos := 1#32 } })
      (shows · [(.pstat, 0x000F0022#32), (.phdr0, 0x0000000F#32), (.phdr1, 0x000F0000#32), (.ppos, 2#32)]) = true := by decide

/-- V-P5: codec 0x09. -/
theorem test_prs_byte_rejects_a_codec :
    after (exec (.prsByte 0x09#8) { board with prs := { Parser.cleared with pst := .bCodec, kind := .data, ppos := 4#32 } })
      (shows · [(.status, 2#32), (.pstat, 0x0000024D#32), (.pblk, 0x00010009#32), (.ppos, 5#32)]) = true := by decide

/-- V-P2: an identifier cut short. -/
theorem test_prs_end_truncates :
    after (exec .prsEnd { board with prs := { Parser.cleared with pst := .tId, kind := .handshake, prem := 10#16, ppos := 7#32 } })
      (shows · [(.status, 1#32), (.pstat, 0x0000012D#32), (.ppos, 7#32)]) = true := by decide

/-- V-P1: a handshake accepted. -/
theorem test_prs_end_accepts :
    after (exec .prsEnd { board with prs := { Parser.cleared with pst := .hDone, kind := .handshake } })
      (shows · [(.status, 0#32), (.pstat, 0x0000002C#32)]) = true := by decide

/-- V-B1, after a longer frame. -/
theorem test_idack_replaces_the_frame :
    after (exec (.bldIdack true) { board with tx := Vector.replicate 32 0xFF#8, txLen := 31#6 })
      (shows · [(.txlen, 1#32), (.txbuf 0, 0x01000000#32), (.txbuf 1, 0#32), (.txbuf 7, 0#32)]) = true := by decide

/-- V-B2. -/
theorem test_tcpack_is_big_endian :
    after (exec (.bldTcpack 0xFF#8) board) (shows · [(.txlen, 4#32), (.txbuf 0, 0x000000FF#32)]) = true := by decide

/-- V-B3. -/
theorem test_udpack_echoes_the_location :
    after (exec (.bldUdpack 0x02#8 0x01#8) board)
      (shows · [(.txlen, 7#32), (.txbuf 0, 0x00050000#32), (.txbuf 1, 0x01020100#32)]) = true := by decide

/-- V-B4. -/
theorem test_imgreq_region_25 :
    after (exec .bldImgreq { board with tid := 0x12345678#32, size := 0x0800#16 })
      (shows · [(.txlen, 31#32), (.crcacc, 0x7A04#32), (.txbuf 1, 0x00000013#32), (.txbuf 2, 0x0C010D00#32),
        (.txbuf 3, 0x00000B02#32), (.txbuf 4, 0x12345678#32), (.txbuf 6, 0x08000100#32), (.txbuf 7, 0x007A0400#32)]) = true := by
  decide +kernel

/-- V-B4 with CRC_REGION_LAST = 26. -/
theorem test_imgreq_region_26 :
    after (exec .bldImgreq { State.powerOn (params 26 0) with tid := 0x12345678#32, size := 0x0800#16 })
      (shows · [(.crcacc, 0x03BA#32), (.txbuf 7, 0x0003BA00#32)]) = true := by decide +kernel

/-- V-X1, step 2. -/
theorem test_xfer_init :
    after (exec .xferInit { board with tid := 1#32, decl := 3000#32, off := 7#32 })
      (shows · [(.xstat, 1#32), (.xtid, 1#32), (.xdecl, 3000#32), (.xwoff, 0#32), (.off, 0#32), (.rsz, 0x800#32),
        (.txlen, 31#32), (.crcacc, 0x35AF#32)]) = true := by decide +kernel

/-- V-X1, step 3. -/
theorem test_xfer_chunk_requests_the_rest :
    after (exec (.xferChunk 2048#16) (transferAt 0#32))
      (shows · [(.xwoff, 0x800#32), (.off, 0x800#32), (.rsz, 0x3B8#32), (.txlen, 31#32), (.crcacc, 0x17AA#32)]) = true := by
  decide +kernel

/-- V-X1, step 4. -/
theorem test_xfer_chunk_completes :
    after (exec (.xferChunk 952#16) (transferAt 2048#32))
      (shows · [(.status, 0#32), (.xstat, 2#32), (.xwoff, 3000#32), (.txlen, 0#32)]) = true := by decide +kernel

/-- V-V8. -/
theorem test_val_check_sleep_mode :
    after (exec .valCheck { board with vin := 0x01000008#32 }) (shows · [(.vout, 0x00000007#32)]) = true := by decide

/-- V-V13. -/
theorem test_val_check_satellites_bar_the_correction :
    after (exec .valCheck { board with vin := 0x00030104#32 }) (shows · [(.vout, 0x00000002#32)]) = true := by decide

/-- 30_encoding.md R89: VAL stands for a write of VIN and VAL.CHECK. -/
theorem test_assemble_val :
    assemble [.val 0x00030004] = some [.write 0x50 4 0x00030004#32, .write 0x00 4 0x50000000#32] := by decide

/-! ### Witnesses: each statement's hypotheses are met, clause by clause -/

/-- CommandWordRunsItsTableRow, EncodeOfDecodeIsTheWord and OpcodeRowsAreDisjoint: a word that matches a row, and one that matches
none. -/
theorem witness_rows :
    (0x41FFFFFF#32 &&& 0xFFFF0000#32 ≠ (0x41000000#32 : Word)) ∧ (0x4100FFFF#32 &&& 0xFFFF0000#32 = (0x41000000#32 : Word)) ∧
      (⟨"XFER.CHUNK", 0x41000000#32, 0xFFFF0000#32⟩ : OpcodeRow) ∈ opcodeTable ∧
      decode 0x4100FFFF#32 = .ok (.xferChunk 0xFFFF#16) ∧
        (∀ r ∈ opcodeTable, 0x41FFFFFF#32 &&& r.mask ≠ r.pattern) := by decide

/-- IllegalWordsChangeOnlyStatus: each of its ways to be illegal, at a smallest value. -/
theorem witness_illegal_words :
    (0x02000000#32 : Word).extractLsb' 24 8 ∉ [0x00#8, 0x01#8, 0x10#8, 0x11#8, 0x20#8, 0x21#8, 0x22#8, 0x30#8, 0x31#8,
      0x32#8, 0x33#8, 0x40#8, 0x41#8, 0x50#8] ∧ (0x00010000#32 : Word).extractLsb' 16 8 ≠ 0#8 ∧
        (0x50000001#32 : Word).extractLsb' 0 16 ≠ 0#16 ∧ (0x31000100#32 : Word).extractLsb' 8 8 ≠ 0#8 ∧
          (0x30000002#32 : Word).extractLsb' 1 15 ≠ 0#15 := by decide

/-- SourceOperandsAreNeverTruncated: the first operand out of range and the last one in range. -/
theorem witness_source_operands :
    (256 ≤ 256 ∧ 65536 ≤ 65536) ∧ assembleCommand (.bldUdpack 255 255) = some (.bldUdpack 0xFF#8 0xFF#8) ∧
      assembleCommand (.xferChunk 65535) = some (.xferChunk 0xFFFF#16) := by decide

/-- PseudoInstructionsAreTheirExpansions, its clause on strings. -/
theorem witness_ascii_string :
    (∀ c ∈ "356307042441013".toList, c.toNat < 128) ∧
      assemble [.prsFeed [.num 0, .text "35"]] =
        some [.write 0x00 4 0x21000000#32, .write 0x00 4 0x21000033#32, .write 0x00 4 0x21000035#32] :=
  ⟨by simp, by decide⟩

/-- BaseLinesAreTheirAccesses: a command in range, and the first one out of range. -/
theorem witness_base_lines :
    assembleCommand (.xferChunk 65535) = some (.xferChunk 0xFFFF#16) ∧ assembleCommand (.xferChunk 65536) = none ∧
      assemble [.wr .vcfg 0x00020103, .rd .txlen, .command (.bldIdack true)] =
        some [.write 0x54 4 0x00020103#32, .read 0x5C 4, .write 0x00 4 0x30000001#32] := by decide

/-- StepRunsTheDecodedCommand. -/
theorem witness_step :
    board.cfg.wellFormed = true ∧ (board.withFetchWord 32 0x21000008).pending = .write 0x00 4 0x21000008#32 :: [] ∧
      decode 0x21000008#32 = .ok (.prsByte 0x08#8) := by decide

/-- ReadsChangeNothing: a mapped offset, and the first and the last unmapped ones. -/
theorem witness_read :
    (board.withProgram [.read 0x9C 4]).pending = .read 0x9C 4 :: [] ∧ board.cfg.wellFormed = true ∧
      0x9C % 4 = 0 ∧ 0x9C < 256 ∧ regOffset (.txbuf 7) = 0x9C ∧
        regAt 0x2C = none ∧ 0x2C % 4 = 0 ∧ regAt 0xFC = none ∧ 0xFC % 4 = 0 ∧ 0xFC < 256 := by decide

/-- UnadmittedAccessIsABusError: a wrong width at an aligned offset, and an unaligned access at the window's end. -/
theorem witness_unadmitted :
    (board.withProgram [.read 0xFC 2]).pending = .read 0xFC 2 :: [] ∧ 0xFC < 256 ∧ 2 ≠ 4 ∧
      (board.withProgram [.write 0xFF 4 0#32]).pending = .write 0xFF 4 0#32 :: [] ∧ 0xFF < 256 ∧ 0xFF % 4 ≠ 0 ∧
        board.cfg.wellFormed = true := by decide

/-- OperandRegisterWritesStoreTheWritableBits. -/
theorem witness_operand_write :
    (board.withProgram [.write (regOffset .vin) 4 0xFFFFFFFF#32]).pending = .write (regOffset .vin) 4 0xFFFFFFFF#32 :: [] ∧
      (Reg.vin, 0xFFFFFF0F#32) ∈ [(Reg.tid, 0xFFFFFFFF#32), (.off, 0xFFFFFFFF#32), (.rsz, 0x0000FFFF#32),
        (.decl, 0xFFFFFFFF#32), (.vin, 0xFFFFFF0F#32), (.vcfg, 0x00FFFFFF#32)] ∧ board.cfg.wellFormed = true := by decide

/-- OtherWritesAreIgnored: STATUS, an unmapped offset, and each range of offsets that read 0 at its ends. -/
theorem witness_other_writes :
    (board.withProgram [.write 0x04 4 0xFFFFFFFF#32]).pending = .write 0x04 4 0xFFFFFFFF#32 :: [] ∧
      0x04 ∉ [0x00, 0x30, 0x34, 0x38, 0x3C, 0x50, 0x54] ∧ 0x2C ∉ [0x00, 0x30, 0x34, 0x38, 0x3C, 0x50, 0x54] ∧
        (0x60 ≤ 0x7C ∧ 0x7C % 4 = 0) ∧ (0xA0 ≤ 0xFC ∧ 0xFC % 4 = 0 ∧ 0xFC < 256) ∧ board.cfg.wellFormed = true := by decide

/-- ParametersOutsideTheirSetsAreRefused: refused ones and allowed ones. -/
theorem witness_parameters :
    ¬((params 25 2).crcRegionLast = 25 ∧ (params 25 2).tcpDataLenBytes = 0) ∧ (params 25 2).tcpDataLenBytes ≠ 4 ∧
      (params 26 4).crcRegionLast = 26 ∧ (params 26 4).tcpDataLenBytes = 4 := by decide

/-- OnlyUnadmittedAccessesFault: a step that faults. -/
theorem witness_fault : step (board.withProgram [.read 0x06 4]) = .fault .busError := rfl

/-- RegistersAreTheWholeState: two descriptions of the state after XFER.INIT and a first chunk, reading alike. -/
theorem witness_same_registers :
    let s := transferAt 2048#32
    let t : State := { transferAt 0#32 with slot := { (transferAt 0#32).slot with xwoff := 2048#32 } }
    s.cfg = t.cfg ∧ s.pending = t.pending ∧ s.answers = t.answers ∧
      ∀ r, r ≠ .cmd → r ≠ .crcval → readReg r s = readReg r t :=
  ⟨rfl, rfl, rfl, fun _ _ _ => rfl⟩

/-- PlatformResetEqualsSoftReset. -/
theorem witness_platform_reset :
    ((transferAt 5#32).withProgram [.platformReset]).pending = .platformReset :: [] ∧
      ((transferAt 5#32).withProgram [.platformReset]).cfg.wellFormed = true := by decide

/-- CrcStepEqualsTheTableForm and CrcResidueIsZero. -/
theorem witness_crc_defaults : (params 25 0).CrcDefaults ∧ Config.default.CrcDefaults := by decide

/-- CrcByteStepsTheAccumulator: both directions. -/
theorem witness_crc_directions :
    board.cfg.crcRefIn = true ∧ { params 25 0 with crcRefIn := false }.crcRefIn = false := by decide

/-- ClosedParserWritesOnlyStatus, PrsEndClosesOrTruncates and ParserErrorIsSticky: a parser in each kind of state. -/
theorem witness_closed_parser :
    board.prs.pst = .idle ∧ (parserAt .closed 0#4).prs.pst = .closed ∧ (parserAt .error 0#4).prs.pst = .error ∧
      (parserAt .bBody 0#4).prs.pst = .bBody ∧ (parserAt .hDone 0#4).prs.pst = .hDone ∧
        after (exec .prsEnd (parserAt .hDone 0#4)) (fun t => t.prs.pst == .closed && t.err == .ok) = true ∧
          after (exec .prsEnd (parserAt .uHdr 0#4)) (fun t => t.err == .truncated) = true ∧
            after (exec (.prsByte 0#8) (parserAt .bCodec 0#4)) (fun t => t.err == .unsupportedCodec) = true := by decide

/-- ParserErrorIsSticky, its clause on steps: a step from ERROR that is neither a reset nor PRS.START. -/
theorem witness_sticky_step :
    after (step ((parserAt .error 0#4).withProgram [.write 0x00 4 0x50000000#32])) (fun t => t.prs.pst == .error) = true ∧
      decode 0x50000000#32 = .ok .valCheck := by decide

/-- LeadingFieldTellsHandshakeFromData: the first byte, and a second byte that makes the field 0, 1 and 0xFFFF. -/
theorem witness_leading_field :
    (parserAt .tLead 0#4).prs.pst = .tLead ∧ (parserAt .tLead 0#4).prs.pk = 0#4 ∧ (parserAt .tLead 1#4).prs.pk ≠ 0#4 ∧
      ((parserAt .tLead 1#4).prs.len16 <<< 8) ||| (0x00#8).setWidth 16 = 0#16 ∧
        ((parserAt .tLead 1#4).prs.len16 <<< 8) ||| (0x01#8).setWidth 16 = 1#16 ∧
          (((0x00FF#16 : Half) <<< 8) ||| (0xFF#8).setWidth 16) = 0xFFFF#16 := by decide

/-- IdentifierBytesAreCountedDown: the last byte and the first of the longest identifier, in both states. -/
theorem witness_identifier :
    { parserAt .tId 0#4 with prs := { (parserAt .tId 0#4).prs with prem := 1#16 } }.prs.prem ≠ 0#16 ∧
      (parserAt .tId 0#4).prs.pst = .tId ∧ (0xFFFF#16 : Half) ≠ 0#16 ∧ (parserAt .uId 0#4).prs.pst = .uId ∧
        (ParserState.tId, ParserState.hDone) ∈ [(ParserState.tId, ParserState.hDone), (.uId, .bCodec)] := by decide

/-- MarkerBytesAreSkipped: the two bytes, under both lengths. -/
theorem witness_marker :
    (parserAt .tMark 0#4).prs.pst = .tMark ∧ (parserAt .tMark 0#4).prs.pk = 0#4 ∧ (parserAt .tMark 1#4).prs.pk ≠ 0#4 ∧
      (parserAt .tMark 1#4).cfg.tcpDataLenBytes ≠ 4 ∧ (params 25 4).tcpDataLenBytes = 4 := by decide

/-- DataLengthWordIsRecorded: the first and the last byte. -/
theorem witness_data_length :
    (parserAt .tDlen 0#4).prs.pst = .tDlen ∧ (parserAt .tDlen 0#4).prs.pk ≤ 3#4 ∧ (parserAt .tDlen 0#4).prs.pk ≠ 3#4 ∧
      (parserAt .tDlen 3#4).prs.pk = 3#4 ∧ (parserAt .tDlen 3#4).prs.pk ≤ 3#4 := by decide

/-- UdpHeaderFieldsAreRecorded: each field's bytes, to the last one. -/
theorem witness_udp_header :
    (parserAt .uHdr 0#4).prs.pst = .uHdr ∧ (parserAt .uHdr 1#4).prs.pk = 1#4 ∧ (parserAt .uHdr 3#4).prs.pk = 3#4 ∧
      (parserAt .uHdr 4#4).prs.pk = 4#4 ∧ (parserAt .uHdr 5#4).prs.pk = 5#4 ∧ (parserAt .uHdr 5#4).prs.pk ≤ 5#4 := by decide

/-- UdpIdentifierLengthIsRead: the first byte, and a second byte that makes the length 0 and 1. -/
theorem witness_udp_identifier_length :
    (parserAt .uIdlen 0#4).prs.pst = .uIdlen ∧ (parserAt .uIdlen 0#4).prs.pk = 0#4 ∧ (parserAt .uIdlen 1#4).prs.pk ≠ 0#4 ∧
      ((parserAt .uIdlen 1#4).prs.idlen <<< 8) ||| (0x00#8).setWidth 16 = 0#16 ∧
        ((parserAt .uIdlen 1#4).prs.idlen <<< 8) ||| (0x01#8).setWidth 16 ≠ 0#16 := by decide

/-- CodecByteIsChecked: a known codec and its unknown neighbour. -/
theorem witness_codec :
    (parserAt .bCodec 0#4).prs.pst = .bCodec ∧ 0x8E#8 ∈ [0x07#8, 0x08#8, 0x8E#8, 0x0C#8, 0x10#8] ∧
      0x8F#8 ∉ [0x07#8, 0x08#8, 0x8E#8, 0x0C#8, 0x10#8] := by decide

/-- CountAndBodyBytesAreConsumed. -/
theorem witness_count_and_body :
    (parserAt .bCount 0#4).prs.pst = .bCount ∧ (parserAt .bBody 0#4).prs.pst = .bBody ∧
      (parserAt .hDone 0#4).prs.pst = .hDone := by decide

/-- ParserCommandsTouchOnlyTheParser: two states that agree on what the parser reads, and differ elsewhere. -/
theorem witness_parser_only :
    (transferAt 5#32).prs = board.prs ∧ (transferAt 5#32).cfg.tcpDataLenBytes = board.cfg.tcpDataLenBytes ∧
      transferAt 5#32 ≠ board := by decide

/-- TcpParserAcceptsExactlyTheLayouts: a shortest handshake and a shortest data frame, both accepted (V-P2, V-P4). -/
theorem witness_tcp_frames :
    board.cfg.wellFormed = true ∧
      after (execAll (frameCommands .tcp [0x00#8, 0x01#8, 0x41#8]) board)
        (fun t => t.prs.pst == .closed && t.prs.kind == .handshake) = true ∧
      after (execAll (frameCommands .tcp [0x00#8, 0x00#8, 0xAB#8, 0xCD#8, 0x08#8, 0x00#8]) board)
        (fun t => t.prs.pst == .closed && t.prs.kind == .data) = true := by decide

/-- UdpParserAcceptsExactlyTheLayout and UdpDatagramFieldsEndInTheirRegisters: an empty identifier (V-P10). -/
theorem witness_udp_frame :
    ([] : List Byte).length = (0#16).toNat ∧ 0x08#8 ∈ [0x07#8, 0x08#8, 0x8E#8, 0x0C#8, 0x10#8] ∧
      after (execAll (frameCommands .udp
          [0x00#8, 0x05#8, 0x00#8, 0x01#8, 0x00#8, 0x01#8, 0x00#8, 0x00#8, 0x08#8, 0x03#8]) board)
        (shows · [(.pstat, 0x0000005C#32), (.phdr0, 0x00010005#32), (.phdr1, 0x00000100#32), (.pblk, 0x00030308#32),
          (.pboff, 0x0A#32)]) = true := by decide

/-- ImageRequestIsByteExact: both regions. -/
theorem witness_image_request :
    board.cfg.wellFormed = true ∧ (params 26 0).wellFormed = true ∧ (params 26 0).crcRegionLast = 26 := by decide

/-- XferChunkCountsTheChunk: no transfer, another id, one byte too many, exactly the rest, and one byte less. -/
theorem witness_chunk :
    (transferAt 2048#32).slot.xwoff ≤ (transferAt 2048#32).slot.xdecl ∧ (transferAt 2048#32).slot.active = true ∧
      (transferAt 2048#32).tid = (transferAt 2048#32).slot.xtid ∧ board.slot.active = false ∧
        board.slot.xwoff ≤ board.slot.xdecl ∧ { transferAt 0#32 with tid := 2#32 }.tid ≠ (transferAt 0#32).slot.xtid ∧
          (transferAt 2048#32).slot.xdecl.toNat < (transferAt 2048#32).slot.xwoff.toNat + (953#16).toNat ∧
            (transferAt 2048#32).slot.xwoff.toNat + (952#16).toNat = (transferAt 2048#32).slot.xdecl.toNat ∧
              (transferAt 2048#32).slot.xwoff.toNat + (951#16).toNat < (transferAt 2048#32).slot.xdecl.toNat := by decide

/-- TransferCompletesInCeilingManyChunks: V-X1's transfer takes two chunks. -/
theorem witness_transfer :
    (transferAt 0#32).decl ≠ 0#32 ∧ ((transferAt 0#32).decl.toNat + 2047) / 2048 = 2 := by decide

/-- EmitIsTheSameOnCorrectedValidity: a record whose VALID is SATS ≠ 0 (V-V3). -/
theorem witness_emit :
    ∃ t, exec .valCheck { board with vin := 0x00000501#32 } = .next t ∧ t.vout = ⟨true, true, false⟩ ∧
      ((0x00000501#32 : Word).getLsbD 0 = true ∧ (0x00000501#32 : Word).extractLsb' 8 8 ≠ 0#8) :=
  ⟨_, rfl, by decide⟩

/-- ErrorsArePrecise and OnlyItsWritersChangeARegister: commands that raise an error, and one that changes what it writes. -/
theorem witness_error :
    after (exec (.xferChunk 1#16) board) (fun t => t.err != .ok) = true ∧
      Instr.xferChunk 1#16 ≠ .srst ∧
        after (exec .xferInit { board with decl := 1#32 }) (fun t => t.slot != board.slot && t.size != board.size) = true := by
  decide +kernel

/-- EveryStepKeepsTheInvariants and EveryStepKeepsTheByteIndexInRange: a state in the middle of a frame and of a transfer meets
both, and its next step completes. -/
theorem witness_invariants :
    let s : State := { transferAt 2048#32 with
      prs := { Parser.cleared with pst := .uHdr, pk := 5#4, mode := .udp, kind := .data }
      vin := 0xFFFFFF0F#32, vcfg := 0x00FFFFFF#32, pending := [.write 0x00 4 0x21000002#32] }
    Inv s ∧ ParserIndexInv s.prs ∧ after (step s) (fun t => t.prs.pst == .uIdlen) = true := by
  refine ⟨⟨by decide, by decide, ⟨by decide, ?_⟩, by decide⟩, ?_, by decide⟩
  · decide
  · simp [ParserIndexInv]

/-- NoDataLengthWordKeepsPdlenZero. -/
theorem witness_no_data_length_word :
    (parserAt .tMark 1#4).cfg.tcpDataLenBytes = 0 ∧ (parserAt .tMark 1#4).prs.pdlen = 0#32 ∧
      (parserAt .tMark 1#4).prs.pst ≠ .tDlen ∧
        after (step ((parserAt .tMark 1#4).withFetchWord 32 0x21000000)) (fun t => t.prs.pst == .bCodec) = true := by decide

end Sys2Proof.Tests
end

/-! The statements of 00_scope.md: parameters outside R7 are refused, every command completes, and errors are precise (R11). -/

namespace Sys2Proof.Machine

/-! ### Every command completes -/

/-- What every command keeps besides the block's registers: the parameters and the host's side of the bus
(notes/assumptions/1.md, 2.md, 13.md). -/
def SameSurroundings (s t : State) : Prop :=
  t.cfg = s.cfg ∧ t.pending = s.pending ∧ t.answers = s.answers

theorem chunkAccepted_sameSurroundings (len : Half) (s : State) : SameSurroundings s (chunkAccepted len s) := by
  obtain ⟨-, hdone⟩ | ⟨-, hmore⟩ := chunkAccepted_cases len s
  · rw [hdone]; exact ⟨rfl, rfl, rfl⟩
  · rw [hmore]; exact ⟨rfl, rfl, rfl⟩

theorem execXferChunk_completes (len : Half) (s : State) :
    ∃ t, execXferChunk len s = .next t ∧ SameSurroundings s t := by
  obtain ⟨-, hunknown⟩ | ⟨-, -, ⟨-, hexceeded⟩ | ⟨-, haccepted⟩⟩ := execXferChunk_cases len s
  · exact ⟨_, hunknown, rfl, rfl, rfl⟩
  · exact ⟨_, hexceeded, rfl, rfl, rfl⟩
  · exact ⟨_, haccepted, chunkAccepted_sameSurroundings len s⟩

/-- Every command but XFER.CHUNK is one straight update of the state. -/
theorem exec_completes (i : Instr) (s : State) : ∃ t, exec i s = .next t ∧ SameSurroundings s t := by
  cases i with
  | xferChunk len => exact execXferChunk_completes len s
  | nop | srst | crcInit | crcByte | prsStart | prsByte | prsEnd | bldIdack | bldTcpack | bldUdpack | bldImgreq
  | xferInit | valCheck => exact ⟨_, rfl, rfl, rfl, rfl⟩

/-! ### Refusals -/

/-- The check on the parameters is the two sets of 00_scope.md R7. -/
theorem config_wellFormed_iff (c : Config) :
    c.wellFormed = true ↔
      (c.crcRegionLast = 25 ∨ c.crcRegionLast = 26) ∧ (c.tcpDataLenBytes = 0 ∨ c.tcpDataLenBytes = 4) := by
  simp [Config.wellFormed]

theorem step_of_not_wellFormed {s : State} (h : ¬s.cfg.wellFormed = true) : step s = .refused .badConfiguration :=
  if_neg h

theorem runCommand_ne_refused (w : Word) (s : State) (r : Refusal) : runCommand w s ≠ .refused r := by
  intro h
  obtain ⟨i, -, hexec⟩ | ⟨-, hillegal⟩ := runCommand_cases h
  · obtain ⟨t, hnext, -⟩ := exec_completes i s
    rw [hnext] at hexec
    cases hexec
  · cases hillegal

/-- An access is performed, or it is a fault; only the parameters are ever refused. -/
theorem perform_ne_refused (e : Event) (s : State) (r : Refusal) : perform e s ≠ .refused r := by
  cases e with
  | read off size =>
    simp only [perform, performRead]
    split <;> simp
  | write off size v =>
    simp only [perform, performWrite]
    split
    · split
      · exact runCommand_ne_refused v s r
      · simp
      · simp
    · simp
  | platformReset => simp [perform]

theorem step_ne_refused {s : State} (h : s.cfg.wellFormed = true) (r : Refusal) : step s ≠ .refused r := by
  unfold step
  rw [if_pos h]
  split
  · simp
  · exact perform_ne_refused _ _ r

/-! ### What an error writes -/

/-- What a parser command can report (41_frame_parser.md R102, R110, R114, R122): success; PARSER_CLOSED with the parser as it
was; or a sticky error, with the parser in ERROR. -/
def ParserReport (p : Parser) (r : Parser × Err) : Prop :=
  r.2 = .ok ∨ r = (p, .parserClosed) ∨
    (r.1.pst = .error ∧ (r.2 = .truncated ∨ r.2 = .unsupportedCodec))

theorem byteCodec_report (b : Byte) (p q : Parser) : ParserReport p (byteCodec b q) := by
  unfold byteCodec
  split
  · exact .inl rfl
  · exact .inr (.inr ⟨rfl, .inr rfl⟩)

/-- PRS.BYTE succeeds in every open state but B_CODEC, where the codec decides. -/
theorem parserByte_report (c : Config) (b : Byte) (p : Parser) : ParserReport p (parserByte c b p) := by
  unfold parserByte
  cases p.pst with
  | idle | closed | error => exact .inr (.inl rfl)
  | bCodec => exact byteCodec_report b p _
  | tLead | tId | tMark | tDlen | uHdr | uIdlen | uId | bCount | bBody | hDone => exact .inl rfl

theorem parserEnd_report (p : Parser) : ParserReport p (parserEnd p) := by
  obtain ⟨-, hclosed⟩ | ⟨-, haccepted⟩ | ⟨-, -, htruncated⟩ := parserEnd_cases p
  · exact .inr (.inl hclosed)
  · rw [haccepted]; exact .inl rfl
  · rw [htruncated]; exact .inr (.inr ⟨rfl, .inl rfl⟩)

/-- What a command can report (00_scope.md R11): success; an error that writes STATUS.ERR only; or a sticky error of the parser,
which also writes the parser's registers (60_exceptions.md R233). -/
def CommandReport (s t : State) : Prop :=
  t.err = .ok ∨ t = s.raise t.err ∨
    (t = s.withParser (t.prs, t.err) ∧ t.prs.pst = .error ∧ (t.err = .truncated ∨ t.err = .unsupportedCodec))

theorem withParser_report {s : State} {r : Parser × Err} (h : ParserReport s.prs r) :
    CommandReport s (s.withParser r) := by
  obtain hok | rfl | ⟨hpst, herr⟩ := h
  · exact .inl hok
  · exact .inr (.inl rfl)
  · exact .inr (.inr ⟨rfl, hpst, herr⟩)

theorem chunkAccepted_err (len : Half) (s : State) : (chunkAccepted len s).err = .ok := by
  obtain ⟨-, hdone⟩ | ⟨-, hmore⟩ := chunkAccepted_cases len s
  · rw [hdone]; rfl
  · rw [hmore]; rfl

theorem execXferChunk_report {len : Half} {s t : State} (h : execXferChunk len s = .next t) : CommandReport s t := by
  obtain ⟨-, hunknown⟩ | ⟨-, -, ⟨-, hexceeded⟩ | ⟨-, haccepted⟩⟩ := execXferChunk_cases len s
  · cases hunknown.symm.trans h
    exact .inr (.inl rfl)
  · cases hexceeded.symm.trans h
    exact .inr (.inl rfl)
  · cases haccepted.symm.trans h
    exact .inl (chunkAccepted_err len s)

/-- Only PRS.BYTE, PRS.END and XFER.CHUNK can report an error (60_exceptions.md R230). -/
theorem exec_report {i : Instr} {s t : State} (h : exec i s = .next t) : CommandReport s t := by
  cases i with
  | prsByte b => cases h; exact withParser_report (parserByte_report s.cfg b s.prs)
  | prsEnd => cases h; exact withParser_report (parserEnd_report s.prs)
  | xferChunk len => exact execXferChunk_report h
  | nop | srst | crcInit | crcByte | prsStart | bldIdack | bldTcpack | bldUdpack | bldImgreq | xferInit | valCheck =>
    cases h; exact .inl rfl

/-! ### The obligations -/

/-- Settles O53. -/
theorem everyCommandCompletes : Obligations.EveryCommandCompletes := exec_completes

/-- Settles O14: the parameters are checked first, and no event is ever refused. -/
theorem parametersOutsideTheirSetsAreRefused : Obligations.ParametersOutsideTheirSetsAreRefused := by
  intro s
  rw [← config_wellFormed_iff]
  exact ⟨step_of_not_wellFormed, step_ne_refused⟩

/-- Settles O54, from the three reports a command can make. -/
theorem errorsArePrecise : Obligations.ErrorsArePrecise := by
  intro i s t hexec herr
  obtain hok | hraise | ⟨hparser, hpst, hsticky⟩ := exec_report hexec
  · exact absurd hok herr
  · have hprs : t.prs = s.prs := by rw [hraise]; rfl
    exact ⟨by rw [hprs]; exact hraise, fun hne => absurd hprs hne⟩
  · exact ⟨hparser, fun _ => ⟨hpst, hsticky⟩⟩

end Sys2Proof.Machine

/-! The registers of 10_state.md: the register map (R21), the fields of each register's word (R23–R46), that the registers are the
whole state (R47), and the reset values. -/

namespace Sys2Proof.Machine

open BitVec (extractLsb'_append_eq_of_le extractLsb'_append_eq_right extractLsb'_eq_self extractLsb'_setWidth_of_le)

/-! ### The register map -/

theorem regAt_regOffset (r : Reg) : regAt (regOffset r) = some r := by
  cases r with
  | txbuf k => revert k; decide
  | _ => rfl

theorem regOffset_of_regAt {off : Nat} {r : Reg} (h : regAt off = some r) : regOffset r = off := by
  unfold regAt at h
  split at h <;> cases h <;> rfl

/-- The map from registers to offsets is one to one, and `regAt` is its inverse. -/
theorem regAt_eq_some_iff (off : Nat) (r : Reg) : regAt off = some r ↔ regOffset r = off :=
  ⟨regOffset_of_regAt, fun h => h ▸ regAt_regOffset r⟩

theorem regOffset_aligned_in_window (r : Reg) : regOffset r % 4 = 0 ∧ regOffset r < 256 := by
  cases r with
  | txbuf k => simp only [regOffset]; omega
  | _ => decide

/-! ### Field encodings: each table lists the values in the order of their codes -/

theorem err_of_code {w : Word} {e : Err} (h : w = (errCode e).setWidth 32) :
    [Err.ok, .truncated, .unsupportedCodec, .unknownTransfer, .capacityExceeded, .illegalCommand,
      .parserClosed][w.toNat]? = some e := by
  subst h; cases e <;> rfl

theorem pst_of_code {w : BitVec 4} {p : ParserState} (h : w = pstCode p) :
    [ParserState.idle, .tLead, .tId, .tMark, .tDlen, .uHdr, .uIdlen, .uId, .bCodec, .bCount, .bBody, .hDone, .closed,
      .error][w.toNat]? = some p := by
  subst h; cases p <;> rfl

theorem mode_of_code {w : BitVec 1} {m : Transport} (h : w = modeCode m) :
    [Transport.tcp, .udp][w.toNat]? = some m := by
  subst h; cases m <;> rfl

theorem kind_of_code {w : BitVec 2} {k : FrameKind} (h : w = kindCode k) :
    [FrameKind.none, .handshake, .data][w.toNat]? = some k := by
  subst h; cases k <;> rfl

theorem perr_of_code {w : BitVec 4} {e : ParserError} (h : w = perrCode e) :
    [ParserError.none, .truncated, .unsupportedCodec][w.toNat]? = some e := by
  subst h; cases e <;> rfl

/-! ### The fields of a register's word -/

/-- A field read as a word of more bits: the bits above it are 0. -/
theorem setWidth_extract_above {w n : Nat} (x : BitVec w) (start len : Nat) (h : w ≤ start) :
    (x.setWidth n).extractLsb' start len = 0#len := by
  ext i hi
  simp [BitVec.getLsbD_of_ge x (start + i) (by omega)]

theorem pstatWord_fields (p : Parser) :
    (pstatWord p).extractLsb' 0 4 = pstCode p.pst ∧ (pstatWord p).extractLsb' 4 1 = modeCode p.mode ∧
      (pstatWord p).extractLsb' 5 2 = kindCode p.kind ∧ (pstatWord p).extractLsb' 7 1 = 0#1 ∧
      (pstatWord p).extractLsb' 8 4 = perrCode p.perr ∧ (pstatWord p).extractLsb' 12 4 = p.pk ∧
      (pstatWord p).extractLsb' 16 16 = p.prem := by
  simp (disch := decide) only [pstatWord, extractLsb'_append_eq_of_le]
  exact ⟨extractLsb'_append_eq_right, extractLsb'_append_eq_right, extractLsb'_append_eq_right,
    extractLsb'_append_eq_right, extractLsb'_append_eq_right, extractLsb'_append_eq_right, extractLsb'_eq_self⟩

theorem phdr0Word_fields (p : Parser) :
    (phdr0Word p).extractLsb' 0 16 = p.len16 ∧ (phdr0Word p).extractLsb' 16 16 = p.pktid := by
  simp (disch := decide) only [phdr0Word, extractLsb'_append_eq_of_le]
  exact ⟨extractLsb'_append_eq_right, extractLsb'_eq_self⟩

theorem phdr1Word_fields (p : Parser) :
    (phdr1Word p).extractLsb' 0 8 = p.ptype ∧ (phdr1Word p).extractLsb' 8 8 = p.locid ∧
      (phdr1Word p).extractLsb' 16 16 = p.idlen := by
  simp (disch := decide) only [phdr1Word, extractLsb'_append_eq_of_le]
  exact ⟨extractLsb'_append_eq_right, extractLsb'_append_eq_right, extractLsb'_eq_self⟩

theorem pblkWord_fields (p : Parser) :
    (pblkWord p).extractLsb' 0 8 = p.codec ∧ (pblkWord p).extractLsb' 8 8 = p.nrec ∧
      (pblkWord p).getLsbD 16 = p.haveCodec ∧ (pblkWord p).getLsbD 17 = p.haveCount ∧
      (pblkWord p).extractLsb' 18 14 = 0#14 := by
  simp (disch := decide) only [pblkWord, extractLsb'_append_eq_of_le, BitVec.getLsbD_append]
  exact ⟨extractLsb'_append_eq_right, extractLsb'_append_eq_right, by simp, by simp, extractLsb'_eq_self⟩

theorem xstatWord_fields (x : Slot) :
    (xstatWord x).getLsbD 0 = x.active ∧ (xstatWord x).getLsbD 1 = x.complete ∧
      (xstatWord x).extractLsb' 2 30 = 0#30 := by
  simp (disch := decide) only [xstatWord, extractLsb'_append_eq_of_le, BitVec.getLsbD_append]
  exact ⟨by simp, by simp, extractLsb'_eq_self⟩

theorem voutWord_fields (v : Verdict) :
    (voutWord v).getLsbD 0 = v.valid ∧ (voutWord v).getLsbD 1 = v.emit ∧ (voutWord v).getLsbD 2 = v.corrected ∧
      (voutWord v).extractLsb' 3 29 = 0#29 := by
  simp (disch := decide) only [voutWord, extractLsb'_append_eq_of_le, BitVec.getLsbD_append]
  exact ⟨by simp, by simp, by simp, extractLsb'_eq_self⟩

theorem vcfgReset_fields (c : Config) :
    (vcfgReset c).extractLsb' 0 8 = gpsSleepRst ∧ (vcfgReset c).extractLsb' 8 8 = c.sleepCodeGpsRst ∧
      (vcfgReset c).extractLsb' 16 8 = c.sleepCodeDeepRst ∧ (vcfgReset c).extractLsb' 24 8 = 0#8 := by
  simp (disch := decide) only [vcfgReset, extractLsb'_append_eq_of_le]
  exact ⟨extractLsb'_append_eq_right, extractLsb'_append_eq_right, extractLsb'_append_eq_right, extractLsb'_eq_self⟩

/-- A 16-bit value read as a word: the value in [15:0], 0 above. -/
theorem halfWord_fields (x : Half) :
    (x.setWidth 32).extractLsb' 0 16 = x ∧ (x.setWidth 32).extractLsb' 16 16 = 0#16 :=
  ⟨(extractLsb'_setWidth_of_le (by decide)).trans extractLsb'_eq_self, setWidth_extract_above x 16 16 (by decide)⟩

/-- TXLEN: the length in [5:0], 0 above. -/
theorem txlenWord_fields (n : BitVec 6) :
    (n.setWidth 32).extractLsb' 0 6 = n ∧ (n.setWidth 32).extractLsb' 6 26 = 0#26 :=
  ⟨(extractLsb'_setWidth_of_le (by decide)).trans extractLsb'_eq_self, setWidth_extract_above n 6 26 (by decide)⟩

/-- Byte j of TXBUF word k, the lowest index in the highest bits (20_memory.md R70). -/
theorem txWord_byte (tx : Vector Byte 32) (k : Fin 8) (j : Fin 4) :
    (txWord tx k).extractLsb' (24 - 8 * j.val) 8 = tx[4 * k.val + j.val] := by
  simp only [txWord]
  fin_cases j <;> simp (disch := decide) only [extractLsb'_append_eq_of_le]
  · exact extractLsb'_eq_self
  · exact extractLsb'_append_eq_right
  · exact extractLsb'_append_eq_right
  · exact extractLsb'_append_eq_right

/-- The output reflects the accumulator exactly when CRC_REFIN and CRC_REFOUT differ (43_crc16.md R161). -/
theorem crcFinal_eq (c : Config) (acc : Half) :
    crcFinal c acc = (if c.crcRefIn = c.crcRefOut then acc else reflect16 acc) ^^^ c.crcXorOut := by
  simp only [crcFinal, ne_eq, ite_not]

/-! ### The registers are the whole state -/

theorem eq_of_setWidth_eq {w n : Nat} {x y : BitVec w} (hw : w ≤ n) (h : x.setWidth n = y.setWidth n) : x = y := by
  simpa [BitVec.setWidth_setWidth_of_le, hw] using congrArg (BitVec.setWidth w) h

/-- The words of the parser's registers determine them (10_state.md R26–R33). -/
theorem parser_eq_of_words {p q : Parser} (hpstat : pstatWord p = pstatWord q) (hphdr0 : phdr0Word p = phdr0Word q)
    (hphdr1 : phdr1Word p = phdr1Word q) (hpblk : pblkWord p = pblkWord q) (hppos : p.ppos = q.ppos)
    (hpboff : p.pboff = q.pboff) (hpdlen : p.pdlen = q.pdlen) : p = q := by
  obtain ⟨hpst, hmode, hkind, -, hperr, hpk, hprem⟩ := hpstat ▸ pstatWord_fields p
  obtain ⟨hpst', hmode', hkind', -, hperr', hpk', hprem'⟩ := pstatWord_fields q
  obtain ⟨hlen16, hpktid⟩ := hphdr0 ▸ phdr0Word_fields p
  obtain ⟨hlen16', hpktid'⟩ := phdr0Word_fields q
  obtain ⟨hptype, hlocid, hidlen⟩ := hphdr1 ▸ phdr1Word_fields p
  obtain ⟨hptype', hlocid', hidlen'⟩ := phdr1Word_fields q
  obtain ⟨hcodec, hnrec, hhaveCodec, hhaveCount, -⟩ := hpblk ▸ pblkWord_fields p
  obtain ⟨hcodec', hnrec', hhaveCodec', hhaveCount', -⟩ := pblkWord_fields q
  have epst : p.pst = q.pst := Option.some.inj ((pst_of_code hpst).symm.trans (pst_of_code hpst'))
  have emode : p.mode = q.mode := Option.some.inj ((mode_of_code hmode).symm.trans (mode_of_code hmode'))
  have ekind : p.kind = q.kind := Option.some.inj ((kind_of_code hkind).symm.trans (kind_of_code hkind'))
  have eperr : p.perr = q.perr := Option.some.inj ((perr_of_code hperr).symm.trans (perr_of_code hperr'))
  cases p
  cases q
  simp_all only

theorem slot_eq_of_words {x y : Slot} (hxstat : xstatWord x = xstatWord y) (hxtid : x.xtid = y.xtid)
    (hxdecl : x.xdecl = y.xdecl) (hxwoff : x.xwoff = y.xwoff) : x = y := by
  obtain ⟨hactive, hcomplete, -⟩ := hxstat ▸ xstatWord_fields x
  obtain ⟨hactive', hcomplete', -⟩ := xstatWord_fields y
  cases x
  cases y
  simp_all only

theorem verdict_eq_of_word {v u : Verdict} (hvout : voutWord v = voutWord u) : v = u := by
  obtain ⟨hvalid, hemit, hcorrected, -⟩ := hvout ▸ voutWord_fields v
  obtain ⟨hvalid', hemit', hcorrected', -⟩ := voutWord_fields u
  cases v
  cases u
  simp_all only

/-- The eight words of TXBUF determine its 32 bytes: byte i is byte i mod 4 of word i / 4. -/
theorem tx_eq_of_words {a b : Vector Byte 32} (h : ∀ k, txWord a k = txWord b k) : a = b := by
  apply Vector.ext
  intro i hi
  have hbyte := txWord_byte a ⟨i / 4, by omega⟩ ⟨i % 4, by omega⟩
  rw [h, txWord_byte] at hbyte
  simpa only [Nat.div_add_mod] using hbyte.symm

/-! ### Reset values -/

/-- Every register after power-on but the CRC's two and VCFG reads 0 (10_state.md R21). -/
theorem readReg_powerOn_eq_zero (c : Config) {r : Reg} (hacc : r ≠ .crcacc) (hval : r ≠ .crcval) (hcfg : r ≠ .vcfg) :
    readReg r (State.powerOn c) = 0#32 := by
  cases r with
  | crcacc => exact absurd rfl hacc
  | crcval => exact absurd rfl hval
  | vcfg => exact absurd rfl hcfg
  | pstat => exact (by decide : pstatWord Parser.cleared = 0#32)
  | phdr0 => exact (by decide : phdr0Word Parser.cleared = 0#32)
  | phdr1 => exact (by decide : phdr1Word Parser.cleared = 0#32)
  | pblk => exact (by decide : pblkWord Parser.cleared = 0#32)
  | xstat => exact (by decide : xstatWord Slot.free = 0#32)
  | vout => exact (by decide : voutWord ⟨false, false, false⟩ = 0#32)
  | txbuf k => simp only [readReg, State.powerOn_tx, txWord, Vector.getElem_replicate]; decide
  | cmd | status | ppos | pboff | pdlen | tid | off | rsz | decl | xtid | xdecl | xwoff | vin | txlen => rfl

/-! ### The obligations -/

/-- Settles O16. -/
theorem registerMapIsOneToOne : Obligations.RegisterMapIsOneToOne :=
  ⟨rfl, rfl, rfl, rfl, rfl, rfl, rfl, rfl, rfl, rfl, rfl, rfl, rfl, rfl, rfl, rfl, rfl, rfl, rfl, rfl, rfl, rfl, rfl,
    fun _ => rfl, regAt_eq_some_iff, regOffset_aligned_in_window, by decide⟩

/-- Settles O17, register by register. -/
theorem readOnlyRegisterFields : Obligations.ReadOnlyRegisterFields := by
  intro s
  obtain ⟨hpst, hmode, hkind, hreserved, hperr, hpk, hprem⟩ := pstatWord_fields s.prs
  obtain ⟨hlen16, hpktid⟩ := phdr0Word_fields s.prs
  obtain ⟨hptype, hlocid, hidlen⟩ := phdr1Word_fields s.prs
  obtain ⟨hcodec, hnrec, hhaveCodec, hhaveCount, hpblk⟩ := pblkWord_fields s.prs
  obtain ⟨hsize, hrsz⟩ := halfWord_fields s.size
  obtain ⟨hactive, hcomplete, hxstat⟩ := xstatWord_fields s.slot
  obtain ⟨hvalid, hemit, hcorrected, hvout⟩ := voutWord_fields s.vout
  obtain ⟨hlen, htxlen⟩ := txlenWord_fields s.txLen
  obtain ⟨hacc, hcrcacc⟩ := halfWord_fields s.acc
  obtain ⟨hval, hcrcval⟩ := halfWord_fields (crcFinal s.cfg s.acc)
  refine ⟨err_of_code rfl, pst_of_code hpst, mode_of_code hmode, kind_of_code hkind, hreserved, perr_of_code hperr, hpk,
    hprem, hlen16, hpktid, hptype, hlocid, hidlen, hcodec, hnrec, hhaveCodec, hhaveCount, hpblk, hsize, hrsz, hactive,
    hcomplete, hxstat, hvalid, hemit, hcorrected, hvout, hlen, htxlen, hacc, hcrcacc, hval.trans (crcFinal_eq _ _),
    hcrcval, rfl, rfl, rfl, rfl, rfl, rfl, rfl, rfl, rfl, rfl, rfl, fun k j => ?_⟩
  have hlt : 4 * k.val + j.val < 32 := by omega
  exact (txWord_byte s.tx k j).trans (by simp [hlt])

/-- Settles O18: each part of the state is recovered from the words of its registers. -/
theorem registersAreTheWholeState : Obligations.RegistersAreTheWholeState := by
  intro s t hcfg hpending hanswers reads
  have herr : s.err = t.err :=
    Option.some.inj ((err_of_code rfl).symm.trans (err_of_code (reads .status nofun nofun)))
  have hacc : s.acc = t.acc := eq_of_setWidth_eq (by decide) (reads .crcacc nofun nofun)
  have hprs : s.prs = t.prs :=
    parser_eq_of_words (reads .pstat nofun nofun) (reads .phdr0 nofun nofun) (reads .phdr1 nofun nofun)
      (reads .pblk nofun nofun) (reads .ppos nofun nofun) (reads .pboff nofun nofun) (reads .pdlen nofun nofun)
  have htid : s.tid = t.tid := reads .tid nofun nofun
  have hoff : s.off = t.off := reads .off nofun nofun
  have hsize : s.size = t.size := eq_of_setWidth_eq (by decide) (reads .rsz nofun nofun)
  have hdecl : s.decl = t.decl := reads .decl nofun nofun
  have hslot : s.slot = t.slot :=
    slot_eq_of_words (reads .xstat nofun nofun) (reads .xtid nofun nofun) (reads .xdecl nofun nofun)
      (reads .xwoff nofun nofun)
  have hvin : s.vin = t.vin := reads .vin nofun nofun
  have hvcfg : s.vcfg = t.vcfg := reads .vcfg nofun nofun
  have hvout : s.vout = t.vout := verdict_eq_of_word (reads .vout nofun nofun)
  have htxLen : s.txLen = t.txLen := eq_of_setWidth_eq (by decide) (reads .txlen nofun nofun)
  have htx : s.tx = t.tx := tx_eq_of_words fun k => reads (.txbuf k) nofun nofun
  clear reads
  cases s
  cases t
  simp_all only

/-- Settles O19. -/
theorem resetRegisterValues : Obligations.ResetRegisterValues := by
  refine ⟨rfl, fun c => ?_⟩
  obtain ⟨hgps, hsleepA, hsleepB, hreserved⟩ := vcfgReset_fields c
  exact ⟨rfl, congrArg (BitVec.setWidth 32) (crcFinal_eq c (acc0 c)), hgps, hsleepA, hsleepB, hreserved,
    fun _ => readReg_powerOn_eq_zero c⟩

end Sys2Proof.Machine

/-! Which commands may change each register (10_state.md R24, R26, R34–R37, R42–R44, 42_transfer.md R140, 44_frame_builder.md
R180). -/

namespace Sys2Proof.Machine

/-! ### What the transfer commands leave alone -/

/-- The registers that no transfer command writes, whatever it answers (42_transfer.md R140). -/
structure KeepsBesideTransfer (s t : State) : Prop where
  prs : t.prs = s.prs
  tid : t.tid = s.tid
  decl : t.decl = s.decl
  vin : t.vin = s.vin
  vcfg : t.vcfg = s.vcfg
  vout : t.vout = s.vout

theorem chunkAccepted_keeps (len : Half) (s : State) : KeepsBesideTransfer s (chunkAccepted len s) := by
  obtain ⟨-, hdone⟩ | ⟨-, hmore⟩ := chunkAccepted_cases len s
  · rw [hdone]; exact ⟨rfl, rfl, rfl, rfl, rfl, rfl⟩
  · rw [hmore]; exact ⟨rfl, rfl, rfl, rfl, rfl, rfl⟩

theorem execXferChunk_keeps {len : Half} {s t : State} (h : execXferChunk len s = .next t) :
    KeepsBesideTransfer s t := by
  obtain ⟨-, hunknown⟩ | ⟨-, -, ⟨-, hexceeded⟩ | ⟨-, haccepted⟩⟩ := execXferChunk_cases len s
  · cases hunknown.symm.trans h; exact ⟨rfl, rfl, rfl, rfl, rfl, rfl⟩
  · cases hexceeded.symm.trans h; exact ⟨rfl, rfl, rfl, rfl, rfl, rfl⟩
  · cases haccepted.symm.trans h; exact chunkAccepted_keeps len s

/-! ### The writers of each register, SRST aside -/

section
variable {i : Instr} {s t : State}

theorem exec_acc_writers (h : exec i s = .next t) (hi : i ≠ .srst) (hne : t.acc ≠ s.acc) :
    i = .crcInit ∨ (∃ b, i = .crcByte b) ∨ i = .bldImgreq ∨ i = .xferInit ∨ ∃ n, i = .xferChunk n := by
  cases i with
  | crcInit | crcByte | bldImgreq | xferInit | xferChunk => simp
  | srst => exact absurd rfl hi
  | nop | prsStart | prsByte | prsEnd | bldIdack | bldTcpack | bldUdpack | valCheck =>
    cases h; exact absurd rfl hne

theorem exec_prs_writers (h : exec i s = .next t) (hi : i ≠ .srst) (hne : t.prs ≠ s.prs) :
    (∃ m, i = .prsStart m) ∨ (∃ b, i = .prsByte b) ∨ i = .prsEnd := by
  cases i with
  | prsStart | prsByte | prsEnd => simp
  | srst => exact absurd rfl hi
  | xferChunk => exact absurd (execXferChunk_keeps h).prs hne
  | nop | crcInit | crcByte | bldIdack | bldTcpack | bldUdpack | bldImgreq | xferInit | valCheck =>
    cases h; exact absurd rfl hne

theorem exec_transfer_writers (h : exec i s = .next t) (hi : i ≠ .srst)
    (hne : t.off ≠ s.off ∨ t.size ≠ s.size ∨ t.slot ≠ s.slot) : i = .xferInit ∨ ∃ n, i = .xferChunk n := by
  cases i with
  | xferInit | xferChunk => simp
  | srst => exact absurd rfl hi
  | nop | crcInit | crcByte | prsStart | prsByte | prsEnd | bldIdack | bldTcpack | bldUdpack | bldImgreq | valCheck =>
    cases h; obtain hoff | hsize | hslot := hne <;> contradiction

theorem exec_frame_writers (h : exec i s = .next t) (hi : i ≠ .srst) (hne : t.tx ≠ s.tx ∨ t.txLen ≠ s.txLen) :
    (∃ a, i = .bldIdack a) ∨ (∃ n, i = .bldTcpack n) ∨ (∃ l n, i = .bldUdpack l n) ∨ i = .bldImgreq ∨
      i = .xferInit ∨ ∃ n, i = .xferChunk n := by
  cases i with
  | bldIdack | bldTcpack | bldUdpack | bldImgreq | xferInit | xferChunk => simp
  | srst => exact absurd rfl hi
  | nop | crcInit | crcByte | prsStart | prsByte | prsEnd | valCheck =>
    cases h; obtain htx | hlen := hne <;> contradiction

theorem exec_vout_writers (h : exec i s = .next t) (hi : i ≠ .srst) (hne : t.vout ≠ s.vout) : i = .valCheck := by
  cases i with
  | valCheck => rfl
  | srst => exact absurd rfl hi
  | xferChunk => exact absurd (execXferChunk_keeps h).vout hne
  | nop | crcInit | crcByte | prsStart | prsByte | prsEnd | bldIdack | bldTcpack | bldUdpack | bldImgreq | xferInit =>
    cases h; exact absurd rfl hne

/-- TID, DECL, VIN and VCFG are the host's to write (10_state.md R34, R37, R42, R43). -/
theorem exec_keeps_hostRegisters (h : exec i s = .next t) (hi : i ≠ .srst) :
    t.tid = s.tid ∧ t.decl = s.decl ∧ t.vin = s.vin ∧ t.vcfg = s.vcfg := by
  cases i with
  | srst => exact absurd rfl hi
  | xferChunk =>
    have hkeeps := execXferChunk_keeps h
    exact ⟨hkeeps.tid, hkeeps.decl, hkeeps.vin, hkeeps.vcfg⟩
  | nop | crcInit | crcByte | prsStart | prsByte | prsEnd | bldIdack | bldTcpack | bldUdpack | bldImgreq | xferInit
  | valCheck => cases h; exact ⟨rfl, rfl, rfl, rfl⟩

end

/-! ### The obligation -/

/-- Settles O55, register by register. -/
theorem onlyItsWritersChangeARegister : Obligations.OnlyItsWritersChangeARegister := fun _ _ _ h hi =>
  ⟨exec_acc_writers h hi, exec_prs_writers h hi, exec_transfer_writers h hi, exec_frame_writers h hi,
    exec_vout_writers h hi, exec_keeps_hostRegisters h hi⟩

end Sys2Proof.Machine

/-! The invariants of 10_state.md R26, R33, R38, R41–R43 and R50: each holds after reset, and every step keeps it. -/

namespace Sys2Proof.Machine

/-! ### What every step keeps -/

/-- What a predicate of states needs to be kept by every step: it does not speak of the host's side of the bus, and register
writes, an illegal word and the commands keep it. -/
structure KeptByEvents (P : State → Prop) : Prop where
  host : ∀ s pending answers, P s → P { s with pending := pending, answers := answers }
  write : ∀ r w s, P s → P (writeReg r w s)
  illegal : ∀ s, P s → P (s.raise .illegalCommand)
  exec : ∀ {i s t}, P s → exec i s = .next t → P t

theorem runCommand_keeps {P : State → Prop} (hP : KeptByEvents P) {w : Word} {s t : State} (hs : P s)
    (h : runCommand w s = .next t) : P t := by
  obtain ⟨i, -, hexec⟩ | ⟨-, hillegal⟩ := runCommand_cases h
  · exact hP.exec hs hexec
  · cases hillegal; exact hP.illegal s hs

theorem perform_keeps {P : State → Prop} (hP : KeptByEvents P) {e : Event} {s t : State} (hs : P s)
    (h : perform e s = .next t) : P t := by
  obtain ⟨off, _, -, -, rfl⟩ | ⟨_, _, w, -, -, -, hcommand⟩ | ⟨_, _, w, r, -, -, -, -, rfl⟩ | ⟨_, _, _, -, -, -, rfl⟩ |
    ⟨-, rfl⟩ := perform_cases h
  · exact hP.host s s.pending (readWindow off s :: s.answers) hs
  · exact runCommand_keeps hP hs hcommand
  · exact hP.write r w s hs
  · exact hs
  · exact hP.exec (i := .srst) hs rfl

theorem step_keeps {P : State → Prop} (hP : KeptByEvents P) {s t : State} (hs : P s) (h : step s = .next t) : P t := by
  obtain ⟨-, ⟨-, rfl⟩ | ⟨e, rest, -, hperform⟩⟩ := step_cases h
  · exact hs
  · exact perform_keeps hP (hP.host s rest s.answers hs) hperform

/-! ### What a register write leaves alone -/

section
variable (r : Reg) (w : Word) (s : State)

@[simp] theorem writeReg_cfg : (writeReg r w s).cfg = s.cfg := by cases r <;> rfl
@[simp] theorem writeReg_prs : (writeReg r w s).prs = s.prs := by cases r <;> rfl
@[simp] theorem writeReg_slot : (writeReg r w s).slot = s.slot := by cases r <;> rfl
@[simp] theorem writeReg_txLen : (writeReg r w s).txLen = s.txLen := by cases r <;> rfl
@[simp] theorem writeReg_tx : (writeReg r w s).tx = s.tx := by cases r <;> rfl

end

/-! ### What every step keeps of the parser -/

/-- What a predicate of the parser's registers needs to be kept by every step under the parameters `c`: reset and PRS.START meet
it, it does not speak of PPOS, and the rule of each parser state (41_frame_parser.md R103–R114) keeps it. -/
structure KeptByParser (c : Config) (Q : Parser → Prop) : Prop where
  cleared : Q Parser.cleared
  start : ∀ m, Q (parserStart m)
  ppos : ∀ {p} n, Q p → Q { p with ppos := n }
  lead : ∀ {b p}, p.pst = .tLead → Q p → Q (byteLead b p)
  id : ∀ {p}, p.pst = .tId → Q p → Q (byteId p)
  mark : ∀ {p}, p.pst = .tMark → Q p → Q (byteMark c p)
  dlen : ∀ {b p}, p.pst = .tDlen → Q p → Q (byteDlen b p)
  header : ∀ {b p}, p.pst = .uHdr → Q p → Q (byteHeader b p)
  idLen : ∀ {b p}, p.pst = .uIdlen → Q p → Q (byteIdLen b p)
  udpId : ∀ {p}, p.pst = .uId → Q p → Q (byteUdpId p)
  codec : ∀ {b p}, p.pst = .bCodec → Q p → Q (byteCodec b p).1
  count : ∀ {b p}, p.pst = .bCount → Q p → Q (byteCount b p)
  closed : ∀ {p}, parserAccepting p.pst = true → Q p → Q { p with pst := .closed }
  truncated : ∀ {p}, Q p → Q { p with perr := .truncated, pk := 0#4, prem := 0#16, pst := .error }

section
variable {c : Config} {Q : Parser → Prop}

theorem parserByte_keeps (hQ : KeptByParser c Q) {b : Byte} {p : Parser} (hp : Q p) : Q (parserByte c b p).1 := by
  have hq := hQ.ppos (p.ppos + 1#32) hp
  unfold parserByte
  split
  case h_1 | h_13 | h_14 => exact hp
  case h_2 hpst => exact hQ.lead hpst hq
  case h_3 hpst => exact hQ.id hpst hq
  case h_4 hpst => exact hQ.mark hpst hq
  case h_5 hpst => exact hQ.dlen hpst hq
  case h_6 hpst => exact hQ.header hpst hq
  case h_7 hpst => exact hQ.idLen hpst hq
  case h_8 hpst => exact hQ.udpId hpst hq
  case h_9 hpst => exact hQ.codec hpst hq
  case h_10 hpst => exact hQ.count hpst hq
  case h_11 | h_12 => exact hq

theorem parserEnd_keeps (hQ : KeptByParser c Q) {p : Parser} (hp : Q p) : Q (parserEnd p).1 := by
  obtain ⟨-, hclosed⟩ | ⟨haccepting, hend⟩ | ⟨-, -, htruncated⟩ := parserEnd_cases p
  · rw [hclosed]; exact hp
  · rw [hend]; exact hQ.closed haccepting hp
  · rw [htruncated]; exact hQ.truncated hp

/-- Nothing but reset and the parser's own commands writes the parser (10_state.md R26). -/
theorem exec_keeps_parser (hQ : KeptByParser c Q) {i : Instr} {s t : State} (hcfg : s.cfg = c) (hs : Q s.prs)
    (h : exec i s = .next t) : Q t.prs := by
  subst hcfg
  cases i with
  | srst => cases h; exact hQ.cleared
  | prsStart m => cases h; exact hQ.start m
  | prsByte b => cases h; exact parserByte_keeps hQ hs
  | prsEnd => cases h; exact parserEnd_keeps hQ hs
  | xferChunk => rw [(execXferChunk_keeps h).prs]; exact hs
  | nop | crcInit | crcByte | bldIdack | bldTcpack | bldUdpack | bldImgreq | xferInit | valCheck => cases h; exact hs

theorem exec_cfg {i : Instr} {s t : State} (h : exec i s = .next t) : t.cfg = s.cfg := by
  obtain ⟨_, hnext, hcfg, -⟩ := exec_completes i s
  cases hnext.symm.trans h
  exact hcfg

theorem parserPredicate_keptByEvents (hQ : KeptByParser c Q) : KeptByEvents fun s => s.cfg = c ∧ Q s.prs where
  host _ _ _ hs := hs
  write r w s hs := by rw [writeReg_cfg, writeReg_prs]; exact hs
  illegal _ hs := hs
  exec hs h := ⟨(exec_cfg h).trans hs.1, exec_keeps_parser hQ hs.1 hs.2 h⟩

theorem step_keeps_parser {s t : State} (hQ : KeptByParser s.cfg Q) (hs : Q s.prs) (h : step s = .next t) :
    t.cfg = s.cfg ∧ Q t.prs :=
  step_keeps (parserPredicate_keptByEvents hQ) ⟨rfl, hs⟩ h

end

theorem parserAccepting_iff (x : ParserState) : parserAccepting x = true ↔ x = .bBody ∨ x = .hDone := by
  cases x <;> simp [parserAccepting]

/-! ### The UDP header byte writes header fields only -/

section
variable (k : BitVec 4) (b : Byte) (p : Parser)

@[simp] theorem headerField_pst : (headerField k b p).pst = p.pst := by unfold headerField; split_ifs <;> rfl
@[simp] theorem headerField_perr : (headerField k b p).perr = p.perr := by unfold headerField; split_ifs <;> rfl
@[simp] theorem headerField_prem : (headerField k b p).prem = p.prem := by unfold headerField; split_ifs <;> rfl
@[simp] theorem headerField_haveCodec : (headerField k b p).haveCodec = p.haveCodec := by
  unfold headerField; split_ifs <;> rfl
@[simp] theorem headerField_haveCount : (headerField k b p).haveCount = p.haveCount := by
  unfold headerField; split_ifs <;> rfl
@[simp] theorem headerField_pdlen : (headerField k b p).pdlen = p.pdlen := by unfold headerField; split_ifs <;> rfl

end

/-! ### PK stays in its field -/

/-- The last byte index of the field a parser state reads; 0 where it reads none (10_state.md R26). -/
def lastIndex : ParserState → BitVec 4
  | .tLead | .tMark | .uIdlen => 1#4
  | .tDlen => 3#4
  | .uHdr => 5#4
  | .idle | .tId | .uId | .bCodec | .bCount | .bBody | .hDone | .closed | .error => 0#4

theorem parserIndexInv_iff (p : Parser) : ParserIndexInv p ↔ p.pk ≤ lastIndex p.pst := by
  unfold ParserIndexInv
  cases p.pst <;> simp [lastIndex]

/-- Inside a field the index moves on by one, and it is back at 0 after the field's last byte. -/
theorem index_succ_le {k n : BitVec 4} (h : k < n) : k + 1#4 ≤ n := by
  revert k n; decide

theorem index_keptByParser (c : Config) : KeptByParser c fun p => p.pk ≤ lastIndex p.pst where
  cleared := by decide
  start m := by cases m <;> decide
  ppos _ hp := hp
  lead hpst _ := by
    simp only [byteLead]
    split_ifs <;> simp [hpst, lastIndex]
  id hpst hp := by
    rw [hpst] at hp
    simp only [byteId]
    split_ifs
    · exact hp
    · exact hpst ▸ hp
  mark hpst _ := by
    simp only [byteMark]
    split_ifs <;> simp [hpst, lastIndex]
  dlen hpst hp := by
    rw [hpst] at hp
    simp only [byteDlen]
    split_ifs with hlast
    · simp [lastIndex]
    · have hmore : _ < 3#4 := BitVec.lt_of_le_ne hp (by rintro hk; simp [hk] at hlast)
      exact hpst ▸ index_succ_le hmore
  header hpst _ := by
    simp only [byteHeader]
    split_ifs with hmore
    · simpa [hpst, lastIndex] using index_succ_le hmore
    · simp [lastIndex]
  idLen hpst _ := by
    simp only [byteIdLen]
    split_ifs <;> simp [hpst, lastIndex]
  udpId hpst hp := by
    rw [hpst] at hp
    simp only [byteUdpId]
    split_ifs
    · exact hp
    · exact hpst ▸ hp
  codec hpst hp := by
    rw [hpst] at hp
    simp only [byteCodec]
    split_ifs <;> exact hp
  count hpst hp := by
    rw [hpst] at hp
    exact hp
  closed haccepting hp := by
    obtain hpst | hpst := (parserAccepting_iff _).1 haccepting <;> rw [hpst] at hp <;> exact hp
  truncated _ := by simp [lastIndex]

/-! ### Without a data-length word PDLEN stays 0 -/

/-- Only T_MARK leads to T_DLEN, and only under TCP_DATA_LEN_BYTES = 4 (41_frame_parser.md R105); only T_DLEN writes PDLEN. -/
theorem noDataLength_keptByParser {c : Config} (hc : c.tcpDataLenBytes = 0) :
    KeptByParser c fun p => p.pdlen = 0#32 ∧ p.pst ≠ .tDlen where
  cleared := by decide
  start m := by cases m <;> decide
  ppos _ hp := hp
  lead _ hp := by
    simp only [byteLead]
    split_ifs <;> simp [hp]
  id _ hp := by
    simp only [byteId]
    split_ifs <;> simp [hp]
  mark _ hp := by
    simp only [byteMark]
    split_ifs <;> simp_all
  dlen hpst hp := absurd hpst hp.2
  header _ hp := by
    simp only [byteHeader]
    split_ifs <;> simp [hp]
  idLen _ hp := by
    simp only [byteIdLen]
    split_ifs <;> simp [hp]
  udpId _ hp := by
    simp only [byteUdpId]
    split_ifs <;> simp [hp]
  codec _ hp := by
    simp only [byteCodec]
    split_ifs <;> simp [hp]
  count _ hp := ⟨hp.1, nofun⟩
  closed _ hp := ⟨hp.1, nofun⟩
  truncated hp := ⟨hp.1, nofun⟩

/-! ### The parser's invariants -/

/-- The parser states of which the invariants ask nothing in particular: no error, no identifier to count, no codec owed. -/
abbrev Quiet (x : ParserState) : Prop := x ≠ .error ∧ ¬CountsIdentifier x ∧ x ≠ .bCount

theorem quiet_of_accepting {x : ParserState} (h : parserAccepting x = true) : Quiet x := by
  obtain rfl | rfl := (parserAccepting_iff x).1 h <;> decide

section
variable {p : Parser} {x : ParserState}

theorem parserInv_iff_of_quiet (hpst : p.pst = x) (hx : Quiet x) :
    ParserInv p ↔ p.perr = .none ∧ p.prem = 0#16 ∧ (p.haveCount = true → p.haveCodec = true) := by
  obtain ⟨herror, hcounts, hcount⟩ := hx
  simp only [ParserInv, hpst, herror, hcounts, hcount, iff_false, ne_eq, not_not, false_implies, and_true]

theorem parserInv_iff_of_counting (hpst : p.pst = x) (hx : CountsIdentifier x) :
    ParserInv p ↔ p.perr = .none ∧ p.prem ≠ 0#16 ∧ (p.haveCount = true → p.haveCodec = true) := by
  obtain rfl | rfl := hx <;> simp [ParserInv, CountsIdentifier, hpst]

theorem parserInv_iff_of_error (hpst : p.pst = .error) :
    ParserInv p ↔ p.perr ≠ .none ∧ p.prem = 0#16 ∧ (p.haveCount = true → p.haveCodec = true) := by
  simp [ParserInv, CountsIdentifier, hpst]

theorem parserInv_iff_of_bCount (hpst : p.pst = .bCount) :
    ParserInv p ↔ p.perr = .none ∧ p.prem = 0#16 ∧ p.haveCodec = true := by
  simp +contextual [ParserInv, CountsIdentifier, hpst]

end

/-- Between quiet states nothing the invariants speak of changes. PREM is set with its state, counted down in it, and left at 0
with it; PERR is set with ERROR; the codec is consumed before the count. -/
theorem parserInv_keptByParser (c : Config) : KeptByParser c ParserInv where
  cleared := by decide
  start m := by cases m <;> decide
  ppos _ hp := hp
  lead hpst hp := by
    obtain ⟨hperr, hprem, hblk⟩ := (parserInv_iff_of_quiet hpst (by decide)).1 hp
    simp only [byteLead]
    split_ifs with hk hlen
    · exact hp
    · exact (parserInv_iff_of_counting rfl (.inl rfl)).2 ⟨hperr, hlen, hblk⟩
    · exact (parserInv_iff_of_quiet (x := .tMark) rfl (by decide)).2 ⟨hperr, hprem, hblk⟩
  id hpst hp := by
    obtain ⟨hperr, -, hblk⟩ := (parserInv_iff_of_counting hpst (.inl rfl)).1 hp
    simp only [byteId]
    split_ifs with hrem
    · exact (parserInv_iff_of_quiet (x := .hDone) rfl (by decide)).2 ⟨hperr, hrem, hblk⟩
    · exact (parserInv_iff_of_counting (by exact hpst) (.inl rfl)).2 ⟨hperr, hrem, hblk⟩
  mark hpst hp := by
    have hquiet := (parserInv_iff_of_quiet hpst (by decide)).1 hp
    simp only [byteMark]
    split_ifs
    · exact hp
    · exact (parserInv_iff_of_quiet (x := .tDlen) rfl (by decide)).2 hquiet
    · exact (parserInv_iff_of_quiet (x := .bCodec) rfl (by decide)).2 hquiet
  dlen hpst hp := by
    have hquiet := (parserInv_iff_of_quiet hpst (by decide)).1 hp
    simp only [byteDlen]
    split_ifs
    · exact (parserInv_iff_of_quiet (x := .bCodec) rfl (by decide)).2 hquiet
    · exact hp
  header hpst hp := by
    have hquiet := (parserInv_iff_of_quiet hpst (by decide)).1 hp
    simp only [byteHeader]
    split_ifs
    · exact (parserInv_iff_of_quiet ((headerField_pst ..).trans hpst) (by decide)).2 (by simpa using hquiet)
    · exact (parserInv_iff_of_quiet (x := .uIdlen) rfl (by decide)).2 (by simpa using hquiet)
  idLen hpst hp := by
    obtain ⟨hperr, hprem, hblk⟩ := (parserInv_iff_of_quiet hpst (by decide)).1 hp
    simp only [byteIdLen]
    split_ifs with hk hlen
    · exact hp
    · exact (parserInv_iff_of_quiet (x := .bCodec) rfl (by decide)).2 ⟨hperr, hprem, hblk⟩
    · exact (parserInv_iff_of_counting rfl (.inr rfl)).2 ⟨hperr, hlen, hblk⟩
  udpId hpst hp := by
    obtain ⟨hperr, -, hblk⟩ := (parserInv_iff_of_counting hpst (.inr rfl)).1 hp
    simp only [byteUdpId]
    split_ifs with hrem
    · exact (parserInv_iff_of_quiet (x := .bCodec) rfl (by decide)).2 ⟨hperr, hrem, hblk⟩
    · exact (parserInv_iff_of_counting (by exact hpst) (.inr rfl)).2 ⟨hperr, hrem, hblk⟩
  codec hpst hp := by
    obtain ⟨hperr, hprem, -⟩ := (parserInv_iff_of_quiet hpst (by decide)).1 hp
    simp only [byteCodec]
    split_ifs
    · exact (parserInv_iff_of_bCount rfl).2 ⟨hperr, hprem, rfl⟩
    · exact (parserInv_iff_of_error rfl).2 ⟨nofun, hprem, fun _ => rfl⟩
  count hpst hp := by
    obtain ⟨hperr, hprem, hcodec⟩ := (parserInv_iff_of_bCount hpst).1 hp
    exact (parserInv_iff_of_quiet (x := .bBody) rfl (by decide)).2 ⟨hperr, hprem, fun _ => hcodec⟩
  closed haccepting hp := by
    have hquiet := (parserInv_iff_of_quiet rfl (quiet_of_accepting haccepting)).1 hp
    exact (parserInv_iff_of_quiet (x := .closed) rfl (by decide)).2 hquiet
  truncated hp := by
    obtain ⟨-, -, hblk, -⟩ := hp
    exact (parserInv_iff_of_error rfl).2 ⟨nofun, rfl, hblk⟩

/-! ### The transfer slot -/

theorem slotInv_free : SlotInv Slot.free := by decide

/-- A transfer just started, of any declared size, 0 included (42_transfer.md R142). -/
theorem slotInv_started (tid decl : Word) : SlotInv ⟨true, false, tid, decl, 0#32⟩ := by
  have hzero : 0#32 ≤ decl := BitVec.le_def.2 (Nat.zero_le _)
  refine ⟨hzero, by simp, fun _ => ?_⟩
  by_cases hdecl : decl = 0#32
  · exact .inr ⟨rfl, hdecl⟩
  · exact .inl (BitVec.lt_of_le_ne hzero (Ne.symm hdecl))

/-- The write offset after an admitted chunk does not wrap, and stays within the declared size (42_transfer.md R143). -/
theorem xwoff_advanced_le {x : Slot} {len : Half} (hle : x.xwoff ≤ x.xdecl)
    (hroom : ¬remaining x.xdecl x.xwoff < len.setWidth 32) : x.xwoff + len.setWidth 32 ≤ x.xdecl := by
  rw [BitVec.not_lt, BitVec.le_def, remaining_toNat hle] at hroom
  rw [BitVec.le_def] at hle ⊢
  rw [BitVec.toNat_add]
  have := x.xdecl.isLt
  rw [Nat.mod_eq_of_lt] <;> omega

theorem chunkAccepted_keeps_slotInv {len : Half} {s : State} (hs : SlotInv s.slot)
    (hroom : ¬remaining s.slot.xdecl s.slot.xwoff < len.setWidth 32) : SlotInv (chunkAccepted len s).slot := by
  obtain ⟨hle, hflags, -⟩ := hs
  have hadvanced := xwoff_advanced_le hle hroom
  obtain ⟨-, hdone⟩ | ⟨hne, hmore⟩ := chunkAccepted_cases len s
  · rw [hdone]
    exact ⟨hadvanced, nofun, nofun⟩
  · rw [hmore]
    exact ⟨hadvanced, hflags, fun _ => .inl (BitVec.lt_of_le_ne hadvanced hne)⟩

theorem exec_keeps_slotInv {i : Instr} {s t : State} (hs : SlotInv s.slot) (h : exec i s = .next t) :
    SlotInv t.slot := by
  cases i with
  | srst => cases h; exact slotInv_free
  | xferInit => cases h; exact slotInv_started s.tid s.decl
  | xferChunk len =>
    obtain ⟨-, hunknown⟩ | ⟨-, -, ⟨-, hexceeded⟩ | ⟨hroom, haccepted⟩⟩ := execXferChunk_cases len s
    · cases hunknown.symm.trans h; exact hs
    · cases hexceeded.symm.trans h; exact hs
    · cases haccepted.symm.trans h; exact chunkAccepted_keeps_slotInv hs hroom
  | nop | crcInit | crcByte | prsStart | prsByte | prsEnd | bldIdack | bldTcpack | bldUdpack | bldImgreq | valCheck =>
    cases h; exact hs

theorem slotInv_keptByEvents : KeptByEvents fun s => SlotInv s.slot where
  host _ _ _ hs := hs
  write r w s hs := by rw [writeReg_slot]; exact hs
  illegal _ hs := hs
  exec := exec_keeps_slotInv

/-! ### The outbound frame -/

theorem frameInv_of_eq {s t : State} (hlen : t.txLen = s.txLen) (htx : t.tx = s.tx) (hs : FrameInv s) : FrameInv t := by
  rw [FrameInv, hlen, htx]; exact hs

/-- A state whose TXBUF holds a frame of one of the lengths there are (44_frame_builder.md R180). -/
theorem frameInv_of_frame {t : State} (f : List Byte) (hf : f.length ∈ [0, 1, 4, 7, 31])
    (hlen : t.txLen = BitVec.ofNat 6 f.length) (htx : t.tx = txOfFrame f) : FrameInv t := by
  have hlt : f.length < 2 ^ 6 := (by decide : ∀ n ∈ [0, 1, 4, 7, 31], n < 2 ^ 6) _ hf
  rw [FrameInv, hlen, htx]
  refine ⟨?_, fun i hi => ?_⟩
  · exact List.mem_map_of_mem (f := BitVec.ofNat 6) hf
  · rw [BitVec.toNat_ofNat, Nat.mod_eq_of_lt hlt] at hi
    exact (txOfFrame_getElem f i i.isLt).trans (List.getD_eq_default _ _ hi)

theorem imgreq_frameInv {t : State} (c : Config) (tid off : Word) (size : Half) (hlen : t.txLen = 31#6)
    (htx : t.tx = txOfFrame (imgreqFrame c tid off size)) : FrameInv t :=
  frameInv_of_frame (imgreqFrame c tid off size) (by simp) (by simpa using hlen) htx

theorem powerOn_frameInv (c : Config) : FrameInv (State.powerOn c) :=
  ⟨by simp, fun i _ => by simp⟩

theorem chunkAccepted_frameInv (len : Half) (s : State) : FrameInv (chunkAccepted len s) := by
  obtain ⟨-, hdone⟩ | ⟨-, hmore⟩ := chunkAccepted_cases len s
  · rw [hdone]; exact frameInv_of_frame [] (by decide) rfl rfl
  · rw [hmore]; exact imgreq_frameInv _ _ _ _ rfl rfl

theorem exec_keeps_frameInv {i : Instr} {s t : State} (hs : FrameInv s) (h : exec i s = .next t) : FrameInv t := by
  cases i with
  | srst => cases h; exact frameInv_of_eq rfl rfl (powerOn_frameInv s.cfg)
  | bldIdack a => cases h; exact frameInv_of_frame (idackFrame a) (by simp [idackFrame]) rfl rfl
  | bldTcpack n => cases h; exact frameInv_of_frame (tcpackFrame n) (by simp [tcpackFrame]) rfl rfl
  | bldUdpack loc n => cases h; exact frameInv_of_frame (udpackFrame loc n) (by simp [udpackFrame]) rfl rfl
  | bldImgreq | xferInit => cases h; exact imgreq_frameInv _ _ _ _ rfl rfl
  | xferChunk len =>
    obtain ⟨-, hunknown⟩ | ⟨-, -, ⟨-, hexceeded⟩ | ⟨-, haccepted⟩⟩ := execXferChunk_cases len s
    · cases hunknown.symm.trans h; exact hs
    · cases hexceeded.symm.trans h; exact hs
    · cases haccepted.symm.trans h; exact chunkAccepted_frameInv len s
  | nop | crcInit | crcByte | prsStart | prsByte | prsEnd | valCheck => cases h; exact hs

theorem frameInv_keptByEvents : KeptByEvents FrameInv where
  host _ _ _ hs := hs
  write r w s hs := frameInv_of_eq (writeReg_txLen r w s) (writeReg_tx r w s) hs
  illegal _ hs := hs
  exec := exec_keeps_frameInv

/-! ### The reserved bits of VIN and VCFG -/

theorem and_mask_reserved (v mask : Word) : v &&& mask &&& ~~~mask = 0#32 := by
  simp [BitVec.and_assoc]

theorem vcfgReset_reserved (c : Config) : vcfgReset c &&& ~~~vcfgMask = 0#32 := by
  have hmask : ~~~vcfgMask = BitVec.allOnes 8 ++ 0#8 ++ 0#8 ++ 0#8 := by decide
  rw [hmask, vcfgReset, BitVec.and_append, BitVec.and_append, BitVec.and_append]
  simp

theorem powerOn_reservedInv (c : Config) : ReservedInv (State.powerOn c) := ⟨BitVec.zero_and, vcfgReset_reserved c⟩

theorem writeReg_keeps_reservedInv (r : Reg) (w : Word) (s : State) (hs : ReservedInv s) :
    ReservedInv (writeReg r w s) := by
  cases r with
  | vin => exact ⟨and_mask_reserved w vinMask, hs.2⟩
  | vcfg => exact ⟨hs.1, and_mask_reserved w vcfgMask⟩
  | _ => exact hs

theorem exec_keeps_reservedInv {i : Instr} {s t : State} (hs : ReservedInv s) (h : exec i s = .next t) :
    ReservedInv t := by
  by_cases hi : i = .srst
  · subst hi; cases h; exact powerOn_reservedInv s.cfg
  · obtain ⟨-, -, hvin, hvcfg⟩ := exec_keeps_hostRegisters h hi
    rw [ReservedInv, hvin, hvcfg]; exact hs

theorem reservedInv_keptByEvents : KeptByEvents ReservedInv where
  host _ _ _ hs := hs
  write := writeReg_keeps_reservedInv
  illegal _ hs := hs
  exec := exec_keeps_reservedInv

theorem powerOn_inv (c : Config) : Inv (State.powerOn c) :=
  ⟨(parserInv_keptByParser c).cleared, slotInv_free, powerOn_frameInv c, powerOn_reservedInv c⟩

/-! ### The obligations -/

/-- Settles O56. -/
theorem resetMeetsTheInvariants : Obligations.ResetMeetsTheInvariants := ⟨powerOn_inv Config.default, powerOn_inv⟩

/-- Settles O57: the parser, the slot, the outbound frame and the reserved bits each keep their part. -/
theorem everyStepKeepsTheInvariants : Obligations.EveryStepKeepsTheInvariants := by
  rintro s t ⟨hparser, hslot, hframe, hreserved⟩ h
  exact ⟨(step_keeps_parser (parserInv_keptByParser s.cfg) hparser h).2, step_keeps slotInv_keptByEvents hslot h,
    step_keeps frameInv_keptByEvents hframe h, step_keeps reservedInv_keptByEvents hreserved h⟩

/-- Settles O58, with the bound on PK as one number per parser state. -/
theorem everyStepKeepsTheByteIndexInRange : Obligations.EveryStepKeepsTheByteIndexInRange := by
  refine ⟨(parserIndexInv_iff _).2 (index_keptByParser State.reset.cfg).cleared, fun s t hs h => ?_⟩
  rw [parserIndexInv_iff] at hs ⊢
  exact (step_keeps_parser (index_keptByParser s.cfg) hs h).2

/-- Settles O59. -/
theorem noDataLengthWordKeepsPdlenZero : Obligations.NoDataLengthWordKeepsPdlenZero := by
  intro s t hparam hpdlen hpst h
  obtain ⟨hcfg, hpdlen', hpst'⟩ := step_keeps_parser (noDataLength_keptByParser hparam) ⟨hpdlen, hpst⟩ h
  exact ⟨hpdlen', hpst', hcfg ▸ hparam⟩

end Sys2Proof.Machine

/-! The bus of 20_memory.md: which accesses the block admits (R60, R62, R63), what a read returns and leaves unchanged (R64, R67,
R68), and what a write does at CMD, at an operand register and anywhere else (R65–R69, R71). -/

namespace Sys2Proof.Machine

/-! ### Admitted accesses, and the others -/

theorem admitted_iff (off size : Nat) : admitted off size = true ↔ size = 4 ∧ off % 4 = 0 ∧ off < 256 := by
  rw [admitted, Bool.and_eq_true, Bool.and_eq_true, beq_iff_eq, beq_iff_eq, decide_eq_true_eq, windowSize, and_assoc]

theorem admitted_of_aligned {off : Nat} (halign : off % 4 = 0) (hwindow : off < 256) : admitted off 4 = true :=
  (admitted_iff off 4).2 ⟨rfl, halign, hwindow⟩

theorem notAdmitted_of_window {off : Nat} (hwindow : off < 256) : notAdmitted off = .busError := if_pos hwindow

/-- `e` is a host access of `size` bytes at window offset `off`. -/
def IsAccess (off size : Nat) (e : Event) : Prop := e = .read off size ∨ ∃ v, e = .write off size v

theorem perform_of_not_admitted {e : Event} {off size : Nat} (he : IsAccess off size e)
    (hna : ¬admitted off size = true) (s : State) : perform e s = .fault (notAdmitted off) := by
  obtain rfl | ⟨v, rfl⟩ := he
  · exact if_neg hna
  · exact if_neg hna

/-! ### Unmapped offsets -/

theorem regAt_eq_none_iff (off : Nat) : regAt off = none ↔ ∀ r, regOffset r ≠ off := by
  simp only [Option.eq_none_iff_forall_ne_some, ne_eq, regAt_eq_some_iff]

/-- The registers stand in three ranges of the window (10_state.md R21). -/
theorem regOffset_ranges (r : Reg) :
    regOffset r ≤ 0x28 ∨ (0x30 ≤ regOffset r ∧ regOffset r ≤ 0x5C) ∨ (0x80 ≤ regOffset r ∧ regOffset r ≤ 0x9C) := by
  cases r with
  | txbuf k => simp only [regOffset]; omega
  | _ => decide

/-- No register stands at the unmapped offsets (20_memory.md R67). -/
theorem regAt_of_unmapped {off : Nat} (h : off = 0x2C ∨ (0x60 ≤ off ∧ off ≤ 0x7C) ∨ 0xA0 ≤ off) : regAt off = none := by
  rw [regAt_eq_none_iff]
  intro r
  have hranges := regOffset_ranges r
  omega

/-! ### What a read returns -/

theorem readWindow_regOffset (r : Reg) (s : State) : readWindow (regOffset r) s = readReg r s := by
  rw [readWindow, regAt_regOffset]

theorem readWindow_of_unmapped {off : Nat} (h : regAt off = none) (s : State) : readWindow off s = 0#32 := by
  rw [readWindow, h]

/-- An admitted read changes no register: the answer is all it adds (20_memory.md R68). -/
theorem performRead_of_admitted {off size : Nat} (h : admitted off size = true) (s : State) :
    performRead off size s = .next { s with answers := readWindow off s :: s.answers } :=
  if_pos h

/-- What a register reads as does not depend on the host's side of the bus. -/
theorem readReg_hostSide (r : Reg) (s : State) (pending : List Event) (answers : List Word) :
    readReg r { s with pending := pending, answers := answers } = readReg r s := rfl

/-! ### What a write does -/

theorem performWrite_cmd (w : Word) (s : State) : performWrite 0x00 4 w s = runCommand w s := rfl

theorem runCommand_of_decode {w : Word} {i : Instr} (h : decode w = .ok i) (s : State) : runCommand w s = exec i s := by
  rw [runCommand, h]

/-- An admitted write to a register other than CMD stores what `writeReg` says. -/
theorem performWrite_regOffset {r : Reg} (hcmd : r ≠ .cmd) (v : Word) (s : State) :
    performWrite (regOffset r) 4 v s = .next (writeReg r v s) := by
  obtain ⟨halign, hwindow⟩ := regOffset_aligned_in_window r
  rw [performWrite, if_pos (admitted_of_aligned halign hwindow), regAt_regOffset]
  cases r with
  | cmd => exact absurd rfl hcmd
  | _ => rfl

theorem performWrite_of_unmapped {off : Nat} (hadmitted : admitted off 4 = true) (h : regAt off = none) (v : Word)
    (s : State) : performWrite off 4 v s = .next s := by
  rw [performWrite, if_pos hadmitted, h]

/-- The operand registers, each with its writable bits (10_state.md R34–R37, R42, R43). -/
def operandMasks : List (Reg × Word) :=
  [(.tid, 0xFFFFFFFF#32), (.off, 0xFFFFFFFF#32), (.rsz, 0x0000FFFF#32), (.decl, 0xFFFFFFFF#32), (.vin, 0xFFFFFF0F#32),
    (.vcfg, 0x00FFFFFF#32)]

theorem ne_cmd_of_mem_operandMasks {r : Reg} {mask : Word} (h : (r, mask) ∈ operandMasks) : r ≠ .cmd := by
  rintro rfl
  simp [operandMasks] at h

/-- RSZ stores the low half of the word, which is the word under the mask of its writable bits. -/
theorem rszSizeOf_setWidth (v : Word) : (rszSizeOf v).setWidth 32 = v &&& 0x0000FFFF#32 := by
  have hlow : v.toNat &&& 0xFFFF = v.toNat % 2 ^ 16 := Nat.and_two_pow_sub_one_eq_mod v.toNat 16
  apply BitVec.eq_of_toNat_eq
  simp only [rszSizeOf, BitVec.toNat_setWidth, BitVec.extractLsb'_toNat, Nat.shiftRight_zero, BitVec.toNat_and,
    BitVec.toNat_ofNat, Nat.reduceMod, Nat.reducePow] at hlow ⊢
  omega

/-- An operand register takes its writable bits, and its reserved bits read 0 (20_memory.md R65). -/
theorem readReg_writeReg_self {r : Reg} {mask : Word} (h : (r, mask) ∈ operandMasks) (v : Word) (s : State) :
    readReg r (writeReg r v s) = v &&& mask := by
  simp only [operandMasks, List.mem_cons, Prod.mk.injEq, List.not_mem_nil, or_false] at h
  obtain ⟨rfl, rfl⟩ | ⟨rfl, rfl⟩ | ⟨rfl, rfl⟩ | ⟨rfl, rfl⟩ | ⟨rfl, rfl⟩ | ⟨rfl, rfl⟩ := h
  case inl | inr.inl | inr.inr.inr.inl => exact BitVec.and_allOnes.symm
  case inr.inr.inl => exact rszSizeOf_setWidth v
  case inr.inr.inr.inr.inl | inr.inr.inr.inr.inr => rfl

/-- A write to one register is not seen in any other: no two share storage that a write reaches (20_memory.md R65). -/
theorem readReg_writeReg_of_ne {r r' : Reg} (h : r' ≠ r) (v : Word) (s : State) :
    readReg r' (writeReg r v s) = readReg r' s := by
  cases r with
  | tid | off | rsz | decl | vin | vcfg => cases r' <;> simp [readReg, writeReg] at h ⊢
  | _ => rfl

@[simp] theorem writeReg_pending (r : Reg) (v : Word) (s : State) : (writeReg r v s).pending = s.pending := by
  cases r <;> rfl

@[simp] theorem writeReg_answers (r : Reg) (v : Word) (s : State) : (writeReg r v s).answers = s.answers := by
  cases r <;> rfl

/-- A register away from the six operand registers' offsets takes no write (20_memory.md R66). -/
theorem writeReg_of_readOnly {r : Reg} (h : regOffset r ∉ [0x30, 0x34, 0x38, 0x3C, 0x50, 0x54]) (v : Word) (s : State) :
    writeReg r v s = s := by
  cases r with
  | tid | off | rsz | decl | vin | vcfg => exact absurd (by decide) h
  | _ => rfl

/-- A write anywhere but at CMD and the operand registers is ignored (20_memory.md R66, R67). -/
theorem performWrite_ignored {off : Nat} (hadmitted : admitted off 4 = true)
    (h : off ∉ [0x00, 0x30, 0x34, 0x38, 0x3C, 0x50, 0x54]) (v : Word) (s : State) :
    performWrite off 4 v s = .next s := by
  obtain ⟨hcmd, hoperand⟩ := List.ne_and_not_mem_of_not_mem_cons h
  cases hreg : regAt off with
  | none => exact performWrite_of_unmapped hadmitted hreg v s
  | some r =>
    obtain rfl := regOffset_of_regAt hreg
    have hne : r ≠ .cmd := by rintro rfl; exact hcmd rfl
    rw [performWrite_regOffset hne, writeReg_of_readOnly hoperand]

/-! ### What can fault -/

/-- A word written to CMD always has a next state: a command completes, and an illegal word only reports. -/
theorem runCommand_completes (w : Word) (s : State) : ∃ t, runCommand w s = .next t := by
  obtain ⟨i, -, hexec⟩ | ⟨-, hillegal⟩ := runCommand_cases (w := w) (s := s) rfl
  · obtain ⟨t, hnext, -⟩ := exec_completes i s
    exact ⟨t, hexec.symm.trans hnext⟩
  · exact ⟨_, hillegal⟩

/-- Every admitted access has a next state. -/
theorem perform_of_admitted {e : Event} {off size : Nat} (he : IsAccess off size e) (ha : admitted off size = true)
    (s : State) : ∃ t, perform e s = .next t := by
  obtain rfl | ⟨v, rfl⟩ := he
  · exact ⟨_, performRead_of_admitted ha s⟩
  · obtain ⟨rfl, -, -⟩ := (admitted_iff off size).1 ha
    cases hreg : regAt off with
    | none => exact ⟨s, performWrite_of_unmapped ha hreg v s⟩
    | some r =>
      obtain rfl := regOffset_of_regAt hreg
      by_cases hcmd : r = .cmd
      · subst hcmd; exact runCommand_completes v s
      · exact ⟨_, performWrite_regOffset hcmd v s⟩

/-- What an event that faults is: a host access that is not admitted. -/
theorem perform_fault_cases {e : Event} {s : State} {f : Fault} (h : perform e s = .fault f) :
    ∃ off size, IsAccess off size e ∧ ¬admitted off size = true := by
  have hna {off size : Nat} (he : IsAccess off size e) : ¬admitted off size = true := fun ha => by
    obtain ⟨t, hnext⟩ := perform_of_admitted he ha s
    rw [hnext] at h
    cases h
  cases e with
  | read off size => exact ⟨off, size, .inl rfl, hna (.inl rfl)⟩
  | write off size v => exact ⟨off, size, .inr ⟨v, rfl⟩, hna (.inr ⟨v, rfl⟩)⟩
  | platformReset => cases h

/-! ### The step -/

/-- A step performs the oldest pending event, with that event taken. -/
theorem step_of_pending {s : State} {e : Event} {rest : List Event} (hcfg : s.cfg.wellFormed = true)
    (hpending : s.pending = e :: rest) : step s = perform e { s with pending := rest } := by
  rw [step, if_pos hcfg, hpending]

/-- A step that faults has performed an event that does. -/
theorem step_fault_cases {s : State} {f : Fault} (h : step s = .fault f) :
    ∃ e rest, s.pending = e :: rest ∧ perform e { s with pending := rest } = .fault f := by
  unfold step at h
  split at h
  · split at h
    · cases h
    · next e rest hpending => exact ⟨e, rest, hpending, h⟩
  · cases h

/-! ### The obligations -/

/-- Settles O10: what the read returns is the register's word, or 0 where no register stands. -/
theorem readsChangeNothing : Obligations.ReadsChangeNothing := by
  intro s off rest hcfg halign hwindow hpending
  have hstep : step s = performRead off 4 { s with pending := rest } := step_of_pending hcfg hpending
  rw [hstep, performRead_of_admitted (admitted_of_aligned halign hwindow)]
  refine ⟨?mapped, fun hunmapped => ?unmapped⟩
  case mapped =>
    rintro r rfl
    rw [readWindow_regOffset, readReg_hostSide]
  case unmapped => rw [readWindow_of_unmapped ((regAt_eq_none_iff off).2 hunmapped)]

/-- Settles O12, register by register in `readReg_writeReg_self` and `readReg_writeReg_of_ne`. -/
theorem operandRegisterWritesStoreTheWritableBits : Obligations.OperandRegisterWritesStoreTheWritableBits := by
  intro s r mask v rest hcfg hmem hpending
  have hstep : step s = .next (writeReg r v { s with pending := rest }) :=
    (step_of_pending hcfg hpending).trans (performWrite_regOffset (ne_cmd_of_mem_operandMasks hmem) v _)
  exact ⟨_, hstep, readReg_writeReg_self hmem v _, fun r' hne => readReg_writeReg_of_ne hne v _, writeReg_cfg r v _,
    writeReg_pending r v _, writeReg_answers r v _⟩

/-- Settles O13. -/
theorem otherWritesAreIgnored : Obligations.OtherWritesAreIgnored := by
  intro s off halign hwindow
  refine ⟨fun v rest hcfg hpending hoff => ?ignored, fun hzero => ?zero⟩
  case ignored =>
    exact (step_of_pending hcfg hpending).trans (performWrite_ignored (admitted_of_aligned halign hwindow) hoff v _)
  case zero =>
    obtain rfl | hunmapped := hzero
    · exact readWindow_regOffset .cmd s
    · exact readWindow_of_unmapped (regAt_of_unmapped hunmapped) s

/-- Settles O15: a fault comes from the event performed, and no admitted access faults. -/
theorem onlyUnadmittedAccessesFault : Obligations.OnlyUnadmittedAccessesFault := by
  intro s f h
  obtain ⟨e, rest, hpending, hfault⟩ := step_fault_cases h
  obtain ⟨off, size, haccess, hna⟩ := perform_fault_cases hfault
  rw [admitted_iff] at hna
  refine ⟨off, size, rest, hna, ?_⟩
  obtain rfl | ⟨v, rfl⟩ := haccess
  · exact .inl hpending
  · exact .inr ⟨v, hpending⟩

/-- Settles O9. -/
theorem stepRunsTheDecodedCommand : Obligations.StepRunsTheDecodedCommand := by
  intro s w i rest hcfg hpending hdecode
  calc step s = performWrite 0x00 4 w { s with pending := rest } := step_of_pending hcfg hpending
    _ = runCommand w { s with pending := rest } := performWrite_cmd w _
    _ = exec i { s with pending := rest } := runCommand_of_decode hdecode _

/-- Settles O11: the read and the write are one case, an access that is not admitted. -/
theorem unadmittedAccessIsABusError : Obligations.UnadmittedAccessIsABusError := by
  intro s off size v rest hcfg hwindow hbad hpending
  obtain ⟨e, hpending, haccess⟩ : ∃ e, s.pending = e :: rest ∧ IsAccess off size e :=
    hpending.elim (fun hread => ⟨_, hread, .inl rfl⟩) fun hwrite => ⟨_, hwrite, .inr ⟨v, rfl⟩⟩
  have hna : ¬admitted off size = true := by rw [admitted_iff]; omega
  rw [step_of_pending hcfg hpending, perform_of_not_admitted haccess hna, notAdmitted_of_window hwindow]

end Sys2Proof.Machine

/-! Command words of 30_encoding.md: the fields of a word (R80), the decoder and the encoder as inverses (R82–R84), the opcode map
as match and mask (R83), and the illegal words (R85). -/

namespace Sys2Proof.Machine

/-! ### The fields of a word -/

theorem opField_append (op res : Byte) (x : Half) : opField (op ++ res ++ x : Word) = op := by
  rw [opField, BitVec.extractLsb'_append_eq_of_le (by decide)]
  exact BitVec.extractLsb'_append_eq_left

theorem resField_append (op res : Byte) (x : Half) : resField (op ++ res ++ x : Word) = res := by
  rw [resField, BitVec.extractLsb'_append_eq_of_le (by decide)]
  exact BitVec.extractLsb'_append_eq_right

theorem opndField_append (op res : Byte) (x : Half) : opndField (op ++ res ++ x : Word) = x :=
  BitVec.extractLsb'_append_eq_right

/-- OP, RES and OPND hold every bit of a word (30_encoding.md R80). -/
theorem append_fields (w : Word) : opField w ++ resField w ++ opndField w = w := by
  have hupper : opField w ++ resField w = w.extractLsb' 16 16 := BitVec.extractLsb'_append_extractLsb'_eq_extractLsb' rfl
  have hword : w.extractLsb' 16 16 ++ opndField w = w.extractLsb' 0 32 :=
    BitVec.extractLsb'_append_extractLsb'_eq_extractLsb' rfl
  rw [hupper, hword, BitVec.extractLsb'_eq_self]

@[simp] theorem opField_encode (i : Instr) : opField (encode i) = i.opcode := opField_append ..

@[simp] theorem resField_encode (i : Instr) : resField (encode i) = 0#8 := resField_append ..

@[simp] theorem opndField_encode (i : Instr) : opndField (encode i) = i.operand := opndField_append ..

theorem encode_eq_iff (i : Instr) (w : Word) :
    encode i = w ↔ i.opcode = opField w ∧ resField w = 0#8 ∧ i.operand = opndField w := by
  constructor
  · rintro rfl
    simp
  · rintro ⟨hop, hres, hopnd⟩
    rw [encode, hop, hopnd, ← hres, append_fields]

/-! ### The layouts of R82 -/

/-- A value is the concatenation of two parts exactly when these are its upper and its lower field. -/
theorem eq_append_iff {m n : Nat} {x : BitVec (m + n)} {y : BitVec m} {z : BitVec n} :
    x = y ++ z ↔ x.extractLsb' n m = y ∧ x.extractLsb' 0 n = z := by
  constructor
  · rintro rfl
    exact ⟨BitVec.extractLsb'_append_eq_left, BitVec.extractLsb'_append_eq_right⟩
  · rintro ⟨rfl, rfl⟩
    have hsplit : x.extractLsb' n m ++ x.extractLsb' 0 n = x.extractLsb' 0 (m + n) :=
      BitVec.extractLsb'_append_extractLsb'_eq_extractLsb' (Nat.zero_add n).symm
    rw [hsplit, BitVec.extractLsb'_eq_self]

theorem lowestBit_eq_ofBool (x : Half) : x.extractLsb' 0 1 = BitVec.ofBool (x.getLsbD 0) := by
  ext i hi
  obtain rfl : i = 0 := by omega
  simp

/-- A layout that requires some operand bits to be 0 reads `i` exactly when they are. -/
theorem ite_eq_ok_iff {c : Prop} [Decidable c] {i j : Instr} :
    (if c then .ok i else .error .operandBits : Except DecodeError Instr) = .ok j ↔ c ∧ i = j := by
  split <;> simp [*]

theorem layoutNone_eq_ok_iff {i j : Instr} {x : Half} : layoutNone i x = .ok j ↔ x = 0#16 ∧ i = j :=
  ite_eq_ok_iff

theorem layoutByte_eq_ok_iff {f : Byte → Instr} {x : Half} {j : Instr} :
    layoutByte f x = .ok j ↔ ∃ b : Byte, x = 0#8 ++ b ∧ f b = j := by
  simp [layoutByte, ite_eq_ok_iff, eq_append_iff (m := 8) (n := 8), and_assoc]

theorem layoutBit_eq_ok_iff {f : Bool → Instr} {x : Half} {j : Instr} :
    layoutBit f x = .ok j ↔ ∃ a : Bool, x = 0#15 ++ BitVec.ofBool a ∧ f a = j := by
  simp only [layoutBit, ite_eq_ok_iff, eq_append_iff (m := 15) (n := 1), lowestBit_eq_ofBool, BitVec.ofBool_eq_iff_eq,
    and_assoc, exists_and_left, exists_eq_left']

theorem layoutLocN_eq_ok_iff {f : Byte → Byte → Instr} {x : Half} {j : Instr} :
    layoutLocN f x = .ok j ↔ ∃ loc n : Byte, x = loc ++ n ∧ f loc n = j := by
  simp [layoutLocN, eq_append_iff (m := 8) (n := 8), and_assoc]

theorem layoutLen_eq_ok_iff {f : Half → Instr} {x : Half} {j : Instr} : layoutLen f x = .ok j ↔ f x = j := by
  simp [layoutLen]

/-! ### Decoding and encoding -/

@[simp] theorem transportOfBit_bitOfTransport (m : Transport) : transportOfBit (bitOfTransport m) = m := by
  cases m <;> rfl

@[simp] theorem bitOfTransport_transportOfBit (a : Bool) : bitOfTransport (transportOfBit a) = a := by
  cases a <;> rfl

/-- The opcode map reads an instruction's operand back. -/
theorem decodeOp_opcode (i : Instr) :
    ∃ layout, decodeOp i.opcode.toNat = some layout ∧ layout i.operand = .ok i := by
  cases i with
  | nop | srst | crcInit | prsEnd | bldImgreq | xferInit | valCheck => exact ⟨_, rfl, layoutNone_eq_ok_iff.2 ⟨rfl, rfl⟩⟩
  | crcByte b | prsByte b | bldTcpack b => exact ⟨_, rfl, layoutByte_eq_ok_iff.2 ⟨b, rfl, rfl⟩⟩
  | prsStart m =>
    exact ⟨_, rfl, layoutBit_eq_ok_iff.2 ⟨bitOfTransport m, rfl, by rw [transportOfBit_bitOfTransport]⟩⟩
  | bldIdack a => exact ⟨_, rfl, layoutBit_eq_ok_iff.2 ⟨a, rfl, rfl⟩⟩
  | bldUdpack loc n => exact ⟨_, rfl, layoutLocN_eq_ok_iff.2 ⟨loc, n, rfl, rfl⟩⟩
  | xferChunk len => exact ⟨_, rfl, rfl⟩

/-- What an opcode's layout reads is an instruction with that opcode and that operand. The cases `h_1` to `h_14` are the arms of
`decodeOp` in the order of the opcode map; they are taken together by layout. -/
theorem opcode_operand_of_decodeOp {op : Byte} {layout : Half → Except DecodeError Instr} {x : Half} {i : Instr}
    (hop : decodeOp op.toNat = some layout) (hx : layout x = .ok i) : i.opcode = op ∧ i.operand = x := by
  unfold decodeOp at hop
  split at hop
  case h_1 heq | h_2 heq | h_3 heq | h_7 heq | h_11 heq | h_12 heq | h_14 heq =>
    cases hop
    obtain ⟨rfl, rfl⟩ := layoutNone_eq_ok_iff.1 hx
    exact ⟨BitVec.eq_of_toNat_eq heq.symm, rfl⟩
  case h_4 heq | h_6 heq | h_9 heq =>
    cases hop
    obtain ⟨b, rfl, rfl⟩ := layoutByte_eq_ok_iff.1 hx
    exact ⟨BitVec.eq_of_toNat_eq heq.symm, rfl⟩
  case h_5 heq =>
    cases hop
    obtain ⟨a, rfl, rfl⟩ := layoutBit_eq_ok_iff.1 hx
    exact ⟨BitVec.eq_of_toNat_eq heq.symm, by simp [Instr.operand]⟩
  case h_8 heq =>
    cases hop
    obtain ⟨a, rfl, rfl⟩ := layoutBit_eq_ok_iff.1 hx
    exact ⟨BitVec.eq_of_toNat_eq heq.symm, rfl⟩
  case h_10 heq =>
    cases hop
    obtain ⟨loc, n, rfl, rfl⟩ := layoutLocN_eq_ok_iff.1 hx
    exact ⟨BitVec.eq_of_toNat_eq heq.symm, rfl⟩
  case h_13 heq =>
    cases hop
    obtain rfl := layoutLen_eq_ok_iff.1 hx
    exact ⟨BitVec.eq_of_toNat_eq heq.symm, rfl⟩
  case h_15 => cases hop

theorem decode_eq_ok_cases {w : Word} {i : Instr} (h : decode w = .ok i) :
    resField w = 0#8 ∧ ∃ layout, decodeOp (opField w).toNat = some layout ∧ layout (opndField w) = .ok i := by
  unfold decode at h
  split at h
  · cases h
  · next layout hop =>
    split at h
    · next hres => exact ⟨hres, layout, hop, h⟩
    · cases h

theorem decode_of_layout {w : Word} {i : Instr} {layout : Half → Except DecodeError Instr} (hres : resField w = 0#8)
    (hop : decodeOp (opField w).toNat = some layout) (hx : layout (opndField w) = .ok i) : decode w = .ok i := by
  simp only [decode, hop, if_pos hres, hx]

theorem decode_encode (i : Instr) : decode (encode i) = .ok i := by
  obtain ⟨layout, hop, hx⟩ := decodeOp_opcode i
  exact decode_of_layout (resField_encode i) (by rwa [opField_encode]) (by rwa [opndField_encode])

theorem encode_of_decode {w : Word} {i : Instr} (h : decode w = .ok i) : encode i = w := by
  obtain ⟨hres, layout, hop, hx⟩ := decode_eq_ok_cases h
  obtain ⟨hopcode, hoperand⟩ := opcode_operand_of_decodeOp hop hx
  exact (encode_eq_iff i w).2 ⟨hopcode, hres, hoperand⟩


/-- The decoder and the encoder are inverse to each other. -/
theorem decode_eq_ok_iff {w : Word} {i : Instr} : decode w = .ok i ↔ encode i = w :=
  ⟨encode_of_decode, fun h => h ▸ decode_encode i⟩

/-! ### The opcode map as match and mask -/

theorem encode_matches_row (i : Instr) :
    ∃ r ∈ opcodeTable, r.mnemonic = i.mnemonic ∧ encode i &&& r.mask = r.pattern :=
  match i with
  | .nop => Laws.TableRow.nop
  | .srst => Laws.TableRow.srst
  | .crcInit => Laws.TableRow.crcInit
  | .crcByte b => Laws.TableRow.crcByte b
  | .prsStart m => Laws.TableRow.prsStart m
  | .prsByte b => Laws.TableRow.prsByte b
  | .prsEnd => Laws.TableRow.prsEnd
  | .bldIdack a => Laws.TableRow.bldIdack a
  | .bldTcpack n => Laws.TableRow.bldTcpack n
  | .bldUdpack loc n => Laws.TableRow.bldUdpack loc n
  | .bldImgreq => Laws.TableRow.bldImgreq
  | .xferInit => Laws.TableRow.xferInit
  | .xferChunk len => Laws.TableRow.xferChunk len
  | .valCheck => Laws.TableRow.valCheck

/-- Every row fixes OP whole and RES to 0, so it can only leave operand bits open (30_encoding.md R82, R83). -/
theorem row_fields {r : OpcodeRow} (h : r ∈ opcodeTable) :
    opField r.mask = BitVec.allOnes 8 ∧ resField r.mask = BitVec.allOnes 8 ∧ resField r.pattern = 0#8 ∧
      opndField r.pattern = 0#16 := by
  revert r
  decide

/-- What a word that matches a row looks like, field by field. -/
theorem fields_of_match {w : Word} {r : OpcodeRow} (hr : r ∈ opcodeTable) (h : w &&& r.mask = r.pattern) :
    opField w = opField r.pattern ∧ resField w = 0#8 ∧ opndField w &&& opndField r.mask = 0#16 := by
  obtain ⟨hop, hres, hres0, hopnd0⟩ := row_fields hr
  have hand (start len : Nat) :
      r.pattern.extractLsb' start len = w.extractLsb' start len &&& r.mask.extractLsb' start len := by
    rw [← BitVec.extractLsb'_and, h]
  have hopw : opField r.pattern = opField w &&& opField r.mask := hand 24 8
  have hresw : resField r.pattern = resField w &&& resField r.mask := hand 16 8
  have hopndw : opndField r.pattern = opndField w &&& opndField r.mask := hand 0 16
  rw [hop, BitVec.and_allOnes] at hopw
  rw [hres, hres0, BitVec.and_allOnes] at hresw
  rw [hopnd0] at hopndw
  exact ⟨hopw.symm, hresw.symm, hopndw.symm⟩

theorem row_eq_of_opField {r₁ r₂ : OpcodeRow} (h₁ : r₁ ∈ opcodeTable) (h₂ : r₂ ∈ opcodeTable)
    (hop : opField r₁.pattern = opField r₂.pattern) : r₁ = r₂ :=
  have hnodup : (opcodeTable.map fun r => opField r.pattern).Nodup := by decide
  List.inj_on_of_nodup_map hnodup h₁ h₂ hop

/-! ### The illegal words of R85 -/

/-- The OP values of the opcode map. -/
abbrev knownOps : List Byte :=
  [0x00#8, 0x01#8, 0x10#8, 0x11#8, 0x20#8, 0x21#8, 0x22#8, 0x30#8, 0x31#8, 0x32#8, 0x33#8, 0x40#8, 0x41#8, 0x50#8]

/-- The OP values whose layout is `none`. -/
abbrev plainOps : List Byte := [0x00#8, 0x01#8, 0x10#8, 0x22#8, 0x33#8, 0x40#8, 0x50#8]

/-- The OP values whose layout is `b8` or `n8`. -/
abbrev byteOps : List Byte := [0x11#8, 0x21#8, 0x31#8]

/-- The OP values whose layout is `m1` or `a1`. -/
abbrev bitOps : List Byte := [0x20#8, 0x30#8]

/-- 30_encoding.md R85, on the fields of a word: OP not in the map, RES not 0, or an operand bit that the layout leaves unused. -/
def IllegalFields (op res : Byte) (x : Half) : Prop :=
  op ∉ knownOps ∨ res ≠ 0#8 ∨ (op ∈ plainOps ∧ x ≠ 0#16) ∨ (op ∈ byteOps ∧ x.extractLsb' 8 8 ≠ 0#8) ∨
    (op ∈ bitOps ∧ x.extractLsb' 1 15 ≠ 0#15)

/-- A row's mask keeps every operand bit that its layout leaves unused. -/
theorem row_mask_covers_unused {r : OpcodeRow} (h : r ∈ opcodeTable) :
    opField r.pattern ∈ knownOps ∧
      (opField r.pattern ∈ plainOps → opndField r.mask = BitVec.allOnes 16) ∧
      (opField r.pattern ∈ byteOps → (opndField r.mask).extractLsb' 8 8 = BitVec.allOnes 8) ∧
      (opField r.pattern ∈ bitOps → (opndField r.mask).extractLsb' 1 15 = BitVec.allOnes 15) := by
  revert r
  decide

/-- The bits a mask keeps whole are 0 if the masked value is. -/
theorem extractLsb'_eq_zero_of_and {x m : Half} {start len : Nat} (h : x &&& m = 0#16)
    (hm : m.extractLsb' start len = BitVec.allOnes len) : x.extractLsb' start len = 0#len := by
  rw [← BitVec.and_allOnes (x := x.extractLsb' start len), ← hm, ← BitVec.extractLsb'_and, h, BitVec.extractLsb'_zero]

theorem legal_of_match {w : Word} {r : OpcodeRow} (hr : r ∈ opcodeTable) (h : w &&& r.mask = r.pattern) :
    ¬IllegalFields (opField w) (resField w) (opndField w) := by
  obtain ⟨hop, hres, hand⟩ := fields_of_match hr h
  obtain ⟨hknown, hnone, hbyte, hbit⟩ := row_mask_covers_unused hr
  rw [hop]
  rintro (hunknown | hreserved | ⟨hmem, hne⟩ | ⟨hmem, hne⟩ | ⟨hmem, hne⟩)
  · exact hunknown hknown
  · exact hreserved hres
  · exact hne (by rw [← hand, hnone hmem, BitVec.and_allOnes])
  · exact hne (extractLsb'_eq_zero_of_and hand (hbyte hmem))
  · exact hne (extractLsb'_eq_zero_of_and hand (hbit hmem))

/-- Every legal combination of fields is an instruction's: the operand is what the layout leaves open. -/
theorem exists_encode_of_legal {w : Word} (h : ¬IllegalFields (opField w) (resField w) (opndField w)) :
    ∃ i, encode i = w := by
  simp only [encode_eq_iff]
  generalize opField w = op, opndField w = x at h ⊢
  simp only [IllegalFields, not_or, not_and, not_not] at h
  obtain ⟨hop, hres, hnone, hbyte, hbit⟩ := h
  have byteOperand (h : x.extractLsb' 8 8 = 0#8) : 0#8 ++ x.extractLsb' 0 8 = x := (eq_append_iff.2 ⟨h, rfl⟩).symm
  have bitOperand (h : x.extractLsb' 1 15 = 0#15) : 0#15 ++ BitVec.ofBool (x.getLsbD 0) = x :=
    (eq_append_iff.2 ⟨h, lowestBit_eq_ofBool x⟩).symm
  simp only [List.mem_cons, List.not_mem_nil, or_false] at hop
  obtain rfl | rfl | rfl | rfl | rfl | rfl | rfl | rfl | rfl | rfl | rfl | rfl | rfl | rfl := hop
  · exact ⟨.nop, rfl, hres, (hnone (by decide)).symm⟩
  · exact ⟨.srst, rfl, hres, (hnone (by decide)).symm⟩
  · exact ⟨.crcInit, rfl, hres, (hnone (by decide)).symm⟩
  · exact ⟨.crcByte (x.extractLsb' 0 8), rfl, hres, byteOperand (hbyte (by decide))⟩
  · exact ⟨.prsStart (transportOfBit (x.getLsbD 0)), rfl, hres,
      by rw [Instr.operand, bitOfTransport_transportOfBit, bitOperand (hbit (by decide))]⟩
  · exact ⟨.prsByte (x.extractLsb' 0 8), rfl, hres, byteOperand (hbyte (by decide))⟩
  · exact ⟨.prsEnd, rfl, hres, (hnone (by decide)).symm⟩
  · exact ⟨.bldIdack (x.getLsbD 0), rfl, hres, bitOperand (hbit (by decide))⟩
  · exact ⟨.bldTcpack (x.extractLsb' 0 8), rfl, hres, byteOperand (hbyte (by decide))⟩
  · exact ⟨.bldUdpack (x.extractLsb' 8 8) (x.extractLsb' 0 8), rfl, hres, (eq_append_iff.2 ⟨rfl, rfl⟩).symm⟩
  · exact ⟨.bldImgreq, rfl, hres, (hnone (by decide)).symm⟩
  · exact ⟨.xferInit, rfl, hres, (hnone (by decide)).symm⟩
  · exact ⟨.xferChunk x, rfl, hres, rfl⟩
  · exact ⟨.valCheck, rfl, hres, (hnone (by decide)).symm⟩

/-- A word that matches a row is the encoding of an instruction with the row's mnemonic. -/
theorem exists_encode_of_match {w : Word} {r : OpcodeRow} (hr : r ∈ opcodeTable) (h : w &&& r.mask = r.pattern) :
    ∃ i, encode i = w ∧ i.mnemonic = r.mnemonic := by
  obtain ⟨i, hi⟩ := exists_encode_of_legal (legal_of_match hr h)
  obtain ⟨r', hr', hmnemonic, hmatch⟩ := encode_matches_row i
  rw [hi] at hmatch
  have hrow : r' = r := row_eq_of_opField hr' hr ((fields_of_match hr' hmatch).1.symm.trans (fields_of_match hr h).1)
  exact ⟨i, hi, by rw [← hrow, hmnemonic]⟩

/-- No row matches exactly when a field is illegal. -/
theorem no_match_iff_illegal {w : Word} :
    (∀ r ∈ opcodeTable, w &&& r.mask ≠ r.pattern) ↔ IllegalFields (opField w) (resField w) (opndField w) := by
  constructor
  · intro hno
    by_contra hlegal
    obtain ⟨i, rfl⟩ := exists_encode_of_legal hlegal
    obtain ⟨r, hr, -, hmatch⟩ := encode_matches_row i
    exact hno r hr hmatch
  · exact fun hillegal r hr hmatch => legal_of_match hr hmatch hillegal

theorem performWrite_cmd_of_no_match {w : Word} (hno : ∀ r ∈ opcodeTable, w &&& r.mask ≠ r.pattern) (s : State) :
    performWrite 0x00 4 w s = .next { s with err := .illegalCommand } := by
  rw [performWrite_cmd]
  obtain ⟨i, hi, -⟩ | ⟨-, hraise⟩ := runCommand_cases (w := w) (s := s) rfl
  · obtain ⟨r, hr, -, hmatch⟩ := encode_matches_row i
    rw [encode_of_decode hi] at hmatch
    exact absurd hmatch (hno r hr)
  · exact hraise

/-! ### The obligations -/

/-- Settles O1. -/
theorem decodeOfEncodeIsTheInstruction : Obligations.DecodeOfEncodeIsTheInstruction := decode_encode

/-- Settles O2. -/
theorem encodeOfDecodeIsTheWord : Obligations.EncodeOfDecodeIsTheWord := fun _ _ => encode_of_decode

/-- Settles O3. -/
theorem commandWordRunsItsTableRow : Obligations.CommandWordRunsItsTableRow := by
  intro w s
  refine ⟨fun r hr hmatch => ?row, fun hno => performWrite_cmd_of_no_match hno s⟩
  case row =>
    obtain ⟨i, hencode, hmnemonic⟩ := exists_encode_of_match hr hmatch
    have hdecode : decode w = .ok i := decode_eq_ok_iff.2 hencode
    exact ⟨i, hdecode, hmnemonic, hencode, (performWrite_cmd w s).trans (runCommand_of_decode hdecode s)⟩

/-- Settles O4: a word's OP is the OP of every row it matches, and no two rows share one. -/
theorem opcodeRowsAreDisjoint : Obligations.OpcodeRowsAreDisjoint := by
  intro w r₁ h₁ r₂ h₂ hmatch₁ hmatch₂
  obtain ⟨hop₁, -, -⟩ := fields_of_match h₁ hmatch₁
  obtain ⟨hop₂, -, -⟩ := fields_of_match h₂ hmatch₂
  exact row_eq_of_opField h₁ h₂ (hop₁.symm.trans hop₂)

/-- Settles O5. -/
theorem illegalWordsChangeOnlyStatus : Obligations.IllegalWordsChangeOnlyStatus := by
  intro w s
  have hbyte : (opndField w).extractLsb' 8 8 = w.extractLsb' 8 8 := BitVec.extractLsb'_extractLsb'_of_le (by decide)
  have hbit : (opndField w).extractLsb' 1 15 = w.extractLsb' 1 15 := BitVec.extractLsb'_extractLsb'_of_le (by decide)
  have hiff := no_match_iff_illegal (w := w)
  rw [IllegalFields, hbyte, hbit] at hiff
  exact ⟨hiff, fun hillegal => performWrite_cmd_of_no_match (hiff.2 hillegal) s⟩

/-- Settles O6: each word is an encoding. -/
theorem exampleWordsDecode : Obligations.ExampleWordsDecode :=
  ⟨decode_encode .srst, decode_encode (.crcByte 0x31#8), decode_encode (.prsStart .udp), decode_encode (.bldIdack true),
    decode_encode (.bldUdpack 0x02#8 0x01#8), decode_encode (.xferChunk 0x0800#16), decode_encode .valCheck⟩

end Sys2Proof.Machine

/-! The assembler of 30_encoding.md R88, R89: the range of each operand, each line's accesses, programs by their parts, and the
pseudo-instructions as their expansions. -/

namespace Sys2Proof.Machine

/-! ### Source commands -/

/-- An operand out of range is refused. -/
theorem assembleCommand_of_not_wellFormed {c : SrcCommand} (h : ¬c.wellFormed = true) : assembleCommand c = none :=
  if_neg h

theorem assembleCommand_crcByte {b : Nat} (h : b < 256) : assembleCommand (.crcByte b) = some (.crcByte (.ofNat 8 b)) :=
  if_pos (decide_eq_true h)

theorem assembleCommand_prsByte {b : Nat} (h : b < 256) : assembleCommand (.prsByte b) = some (.prsByte (.ofNat 8 b)) :=
  if_pos (decide_eq_true h)

theorem assembleCommand_bldTcpack {n : Nat} (h : n < 256) :
    assembleCommand (.bldTcpack n) = some (.bldTcpack (.ofNat 8 n)) :=
  if_pos (decide_eq_true h)

theorem assembleCommand_bldUdpack {loc n : Nat} (hloc : loc < 256) (hn : n < 256) :
    assembleCommand (.bldUdpack loc n) = some (.bldUdpack (.ofNat 8 loc) (.ofNat 8 n)) :=
  if_pos (by simp [SrcCommand.wellFormed, hloc, hn])

theorem assembleCommand_xferChunk {len : Nat} (h : len < 65536) :
    assembleCommand (.xferChunk len) = some (.xferChunk (.ofNat 16 len)) :=
  if_pos (decide_eq_true h)

/-! ### Lines and programs -/

/-- The accesses of two parts of a program, or an error if either is in error. -/
def joinAccesses (before after : Option (List Event)) : Option (List Event) :=
  before.bind fun xs => after.map fun ys => xs ++ ys

@[simp] theorem joinAccesses_none_left (after : Option (List Event)) : joinAccesses none after = none := rfl

@[simp] theorem joinAccesses_none_right (before : Option (List Event)) : joinAccesses before none = none := by
  cases before <;> rfl

theorem assembleLines_eq_mapM (p : List SrcLine) : assembleLines p = p.mapM assembleLine := by
  induction p with
  | nil => rfl
  | cons l p ih =>
    rw [assembleLines, List.mapM_cons, ih]
    cases assembleLine l with
    | none => rfl
    | some e => cases p.mapM assembleLine <;> rfl

theorem assembleLines_append (p q : List SrcLine) :
    assembleLines (p ++ q) = joinAccesses (assembleLines p) (assembleLines q) := by
  simp only [assembleLines_eq_mapM, List.mapM_append]
  cases p.mapM assembleLine with
  | none => rfl
  | some xs => cases q.mapM assembleLine <;> rfl

theorem assemble_of_wellFormed {p : List SrcLine} (h : p.all SrcLine.wellFormed = true) :
    assemble p = assembleLines (p.flatMap expandLine) :=
  if_pos h

theorem assemble_of_not_wellFormed {p : List SrcLine} (h : ¬p.all SrcLine.wellFormed = true) : assemble p = none :=
  if_neg h

/-- A program assembles part by part. -/
theorem assemble_append (p q : List SrcLine) : assemble (p ++ q) = joinAccesses (assemble p) (assemble q) := by
  have hboth : (p ++ q).all SrcLine.wellFormed = true ↔
      p.all SrcLine.wellFormed = true ∧ q.all SrcLine.wellFormed = true := by
    rw [List.all_append, Bool.and_eq_true]
  by_cases hp : p.all SrcLine.wellFormed = true
  · by_cases hq : q.all SrcLine.wellFormed = true
    · rw [assemble_of_wellFormed (hboth.2 ⟨hp, hq⟩), assemble_of_wellFormed hp, assemble_of_wellFormed hq,
        List.flatMap_append, assembleLines_append]
    · rw [assemble_of_not_wellFormed fun h => hq (hboth.1 h).2, assemble_of_not_wellFormed hq, joinAccesses_none_right]
  · rw [assemble_of_not_wellFormed fun h => hp (hboth.1 h).1, assemble_of_not_wellFormed hp, joinAccesses_none_left]

/-- A base line in range, one that expands to itself, is its one access. -/
theorem assemble_singleton {l : SrcLine} (hrange : l.wellFormed = true) (hbase : expandLine l = [l]) :
    assemble [l] = (assembleLine l).map fun e => [e] := by
  have hall : [l].all SrcLine.wellFormed = true := by rw [List.all_cons, hrange]; rfl
  rw [assemble_of_wellFormed hall, List.flatMap_singleton, hbase, assembleLines]
  cases assembleLine l <;> rfl

theorem assemble_command (c : SrcCommand) :
    assemble [.command c] = (assembleCommand c).map fun i => [.write (regOffset .cmd) 4 (encode i)] := by
  by_cases hrange : c.wellFormed = true
  · have hline : (SrcLine.command c).wellFormed = true := hrange
    rw [assemble_singleton hline rfl, assembleLine, Option.map_map]
    rfl
  · have hline : ¬[SrcLine.command c].all SrcLine.wellFormed = true := by simpa [SrcLine.wellFormed] using hrange
    rw [assemble_of_not_wellFormed hline, assembleCommand_of_not_wellFormed hrange, Option.map_none]

theorem assemble_wr {r : Reg} {v : Nat} (h : v < 2 ^ 32) :
    assemble [.wr r v] = some [.write (regOffset r) 4 (.ofNat 32 v)] := by
  have hline : (SrcLine.wr r v).wellFormed = true := decide_eq_true h
  rw [assemble_singleton hline rfl, assembleLine, if_pos h, Option.map_some]

/-! ### Pseudo-instructions -/

/-- `l` and `ls` are in range together and expand to the same lines. -/
def SameExpansion (l : SrcLine) (ls : List SrcLine) : Prop :=
  l.wellFormed = ls.all SrcLine.wellFormed ∧ expandLine l = ls.flatMap expandLine

/-- Lines with the same expansion can be exchanged in any program. -/
theorem SameExpansion.assemble_eq {l : SrcLine} {ls : List SrcLine} (h : SameExpansion l ls) (before after : List SrcLine) :
    assemble (before ++ [l] ++ after) = assemble (before ++ ls ++ after) := by
  obtain ⟨hrange, hexpand⟩ := h
  have hline : assemble [l] = assemble ls := by
    simp only [assemble, List.all_cons, List.all_nil, Bool.and_true, List.flatMap_singleton, hrange, hexpand]
  simp only [assemble_append, hline]

@[simp] theorem srcBytes_num (bs : List Nat) : srcBytes (bs.map .num) = bs := by
  induction bs with
  | nil => rfl
  | cons b bs ih => exact congrArg (b :: ·) ih

@[simp] theorem srcBytes_append (xs ys : List SrcItem) : srcBytes (xs ++ ys) = srcBytes xs ++ srcBytes ys :=
  List.flatMap_append

/-- A list of base lines, one for each byte, expands to itself. -/
theorem flatMap_expandLine_command (f : Nat → SrcCommand) (bs : List Nat) :
    (bs.map fun b => SrcLine.command (f b)).flatMap expandLine = bs.map fun b => .command (f b) := by
  rw [List.flatMap_map]
  exact List.flatMap_pure_eq_map ..

theorem crcBuf_sameExpansion (bs : List Nat) :
    SameExpansion (.crcBuf (bs.map .num)) (.command .crcInit :: bs.map fun b => .command (.crcByte b)) := by
  constructor
  · simp [SrcLine.wellFormed, SrcCommand.wellFormed, SrcItem.wellFormed, Function.comp_def]
  · rw [List.flatMap_cons, flatMap_expandLine_command .crcByte]
    simp only [expandLine, srcBytes_num, List.singleton_append]

theorem prsFeed_sameExpansion (bs : List Nat) :
    SameExpansion (.prsFeed (bs.map .num)) (bs.map fun b => .command (.prsByte b)) := by
  constructor
  · simp [SrcLine.wellFormed, SrcCommand.wellFormed, SrcItem.wellFormed, Function.comp_def]
  · rw [flatMap_expandLine_command .prsByte, expandLine, srcBytes_num]

theorem prsFrame_sameExpansion (m : Transport) (bs : List SrcItem) :
    SameExpansion (.prsFrame m bs) [.command (.prsStart m), .prsFeed bs, .command .prsEnd] := by
  constructor
  · simp [SrcLine.wellFormed, SrcCommand.wellFormed]
  · rfl

theorem imgreq_sameExpansion (tid off size : Nat) :
    SameExpansion (.imgreq tid off size) [.wr .tid tid, .wr .off off, .wr .rsz size, .command .bldImgreq] := by
  constructor
  · simp [SrcLine.wellFormed, SrcCommand.wellFormed, Bool.and_assoc]
  · rfl

theorem xferStart_sameExpansion (tid decl : Nat) :
    SameExpansion (.xferStart tid decl) [.wr .tid tid, .wr .decl decl, .command .xferInit] := by
  constructor
  · simp [SrcLine.wellFormed, SrcCommand.wellFormed]
  · rfl

theorem xferRecv_sameExpansion (tid len : Nat) :
    SameExpansion (.xferRecv tid len) [.wr .tid tid, .command (.xferChunk len)] := by
  constructor
  · simp [SrcLine.wellFormed, SrcCommand.wellFormed]
  · rfl

theorem val_sameExpansion (vin : Nat) : SameExpansion (.val vin) [.wr .vin vin, .command .valCheck] := by
  constructor
  · simp [SrcLine.wellFormed, SrcCommand.wellFormed]
  · rfl

/-- The numbers a string stands for. -/
def charItems (x : String) : List SrcItem := x.toList.map fun c => .num c.toNat

theorem srcBytes_text (x : String) (pre post : List SrcItem) :
    srcBytes (pre ++ [.text x] ++ post) = srcBytes (pre ++ charItems x ++ post) := by
  have hchars : srcBytes (charItems x) = x.toList.map Char.toNat := by
    rw [← srcBytes_num (x.toList.map Char.toNat), List.map_map]
    rfl
  have htext : srcBytes [.text x] = x.toList.map Char.toNat := List.append_nil _
  simp only [srcBytes_append, htext, hchars]

theorem wellFormed_text {x : String} (hascii : ∀ c ∈ x.toList, c.toNat < 128) (pre post : List SrcItem) :
    (pre ++ [SrcItem.text x] ++ post).all SrcItem.wellFormed = (pre ++ charItems x ++ post).all SrcItem.wellFormed := by
  have htext : (SrcItem.text x).wellFormed = true := by simpa [SrcItem.wellFormed] using hascii
  have hchars : (charItems x).all SrcItem.wellFormed = true := by
    simp only [charItems, List.all_map, List.all_eq_true, Function.comp_apply, SrcItem.wellFormed, decide_eq_true_eq]
    exact fun c hc => (hascii c hc).trans (by decide)
  simp only [List.all_append, List.all_cons, List.all_nil, Bool.and_true, htext, hchars]

theorem crcBuf_text_sameExpansion {x : String} (hascii : ∀ c ∈ x.toList, c.toNat < 128) (pre post : List SrcItem) :
    SameExpansion (.crcBuf (pre ++ [.text x] ++ post)) [.crcBuf (pre ++ charItems x ++ post)] := by
  constructor
  · simp only [SrcLine.wellFormed, wellFormed_text hascii, List.all_cons, List.all_nil, Bool.and_true]
  · simp only [expandLine, srcBytes_text, List.flatMap_singleton]

theorem prsFeed_text_sameExpansion {x : String} (hascii : ∀ c ∈ x.toList, c.toNat < 128) (pre post : List SrcItem) :
    SameExpansion (.prsFeed (pre ++ [.text x] ++ post)) [.prsFeed (pre ++ charItems x ++ post)] := by
  constructor
  · simp only [SrcLine.wellFormed, wellFormed_text hascii, List.all_cons, List.all_nil, Bool.and_true]
  · simp only [expandLine, srcBytes_text, List.flatMap_singleton]

/-! ### The obligations -/

/-- Settles O7. -/
theorem sourceOperandsAreNeverTruncated : Obligations.SourceOperandsAreNeverTruncated := by
  refine ⟨fun b hb => ?byte, fun loc n hlocn => ?locN, fun len hlen => ?len, fun b => ?byteFits, fun loc n => ?locNFits,
    fun len => ?lenFits⟩
  case byte =>
    have hrange : ¬decide (b < 256) = true := by simpa using hb
    exact ⟨assembleCommand_of_not_wellFormed hrange, assembleCommand_of_not_wellFormed hrange,
      assembleCommand_of_not_wellFormed hrange⟩
  case locN =>
    refine assembleCommand_of_not_wellFormed ?_
    simp only [SrcCommand.wellFormed, Bool.and_eq_true, decide_eq_true_eq]
    omega
  case len => exact assembleCommand_of_not_wellFormed (by simpa [SrcCommand.wellFormed] using hlen)
  case byteFits =>
    rw [assembleCommand_crcByte b.isLt, assembleCommand_prsByte b.isLt, assembleCommand_bldTcpack b.isLt,
      BitVec.ofNat_toNat, BitVec.setWidth_eq]
    exact ⟨rfl, rfl, rfl⟩
  case locNFits => simp only [assembleCommand_bldUdpack loc.isLt n.isLt, BitVec.ofNat_toNat, BitVec.setWidth_eq]
  case lenFits => simp only [assembleCommand_xferChunk len.isLt, BitVec.ofNat_toNat, BitVec.setWidth_eq]

/-- Settles O8, one expansion at a time. -/
theorem pseudoInstructionsAreTheirExpansions : Obligations.PseudoInstructionsAreTheirExpansions := by
  intro before after
  refine ⟨fun bs => ?_, fun bs => ?_, fun m bs => ?_, fun tid off size => ?_, fun tid decl => ?_, fun tid len => ?_,
    fun vin => ?_, fun x pre post hascii => ⟨?_, ?_⟩⟩
  · exact (crcBuf_sameExpansion bs).assemble_eq before after
  · exact (prsFeed_sameExpansion bs).assemble_eq before after
  · exact (prsFrame_sameExpansion m bs).assemble_eq before after
  · exact (imgreq_sameExpansion tid off size).assemble_eq before after
  · exact (xferStart_sameExpansion tid decl).assemble_eq before after
  · exact (xferRecv_sameExpansion tid len).assemble_eq before after
  · exact (val_sameExpansion vin).assemble_eq before after
  · exact (crcBuf_text_sameExpansion hascii pre post).assemble_eq before after
  · exact (prsFeed_text_sameExpansion hascii pre post).assemble_eq before after

/-- Settles O60. -/
theorem baseLinesAreTheirAccesses : Obligations.BaseLinesAreTheirAccesses := by
  refine ⟨rfl, fun r v => ?wr, fun r => rfl, fun c i h => ?accepted, fun c h => ?refused,
    fun m a => ?commands, assemble_append⟩
  case wr =>
    rw [assemble_wr v.isLt, BitVec.ofNat_toNat, BitVec.setWidth_eq]
  case accepted => rw [assemble_command, h, Option.map_some]; rfl
  case refused => rw [assemble_command, h, Option.map_none]
  case commands => exact ⟨rfl, rfl, rfl, rfl, rfl, rfl, rfl, rfl, rfl⟩

end Sys2Proof.Machine

/-! The frame parser's commands of 41_frame_parser.md: what each byte does in each parser state (R101–R114, R119), and the parser's
errors (R121, R122). -/

namespace Sys2Proof.Machine

/-! ### Big-endian fields, 41_frame_parser.md R119 -/

/-- The byte shifted in lands on bits the shift has cleared, so the two parts add up. -/
theorem shiftLeft_or_byte_toNat {w : Nat} (f : BitVec w) (b : Byte) :
    ((f <<< 8) ||| b.setWidth w).toNat = (f.toNat * 256 + b.toNat) % 2 ^ w := by
  have hdisjoint : (f <<< 8) &&& b.setWidth w = 0#w := by
    ext i hi
    by_cases h : i < 8
    · simp [h]
    · simp [BitVec.getLsbD_of_ge b i (by omega)]
  rw [← BitVec.add_eq_or_of_and_eq_zero _ _ hdisjoint]
  simp [Nat.shiftLeft_eq]

theorem shiftIn16_toNat (f : Half) (b : Byte) : (shiftIn16 f b).toNat = (f.toNat * 256 + b.toNat) % 2 ^ 16 :=
  shiftLeft_or_byte_toNat f b

theorem shiftIn32_toNat (f : Word) (b : Byte) : (shiftIn32 f b).toNat = (f.toNat * 256 + b.toNat) % 2 ^ 32 :=
  shiftLeft_or_byte_toNat f b

theorem foldl_shiftIn16_be2 (v : Half) : (be2 v).foldl shiftIn16 0#16 = v := by
  apply BitVec.eq_of_toNat_eq
  simp only [be2, List.foldl_cons, List.foldl_nil, shiftIn16_toNat, BitVec.extractLsb'_toNat, BitVec.toNat_ofNat,
    Nat.shiftRight_eq_div_pow]
  have := v.isLt
  omega

theorem foldl_shiftIn32_be4 (v : Word) : (be4 v).foldl shiftIn32 0#32 = v := by
  apply BitVec.eq_of_toNat_eq
  simp only [be4, List.foldl_cons, List.foldl_nil, shiftIn32_toNat, BitVec.extractLsb'_toNat, BitVec.toNat_ofNat,
    Nat.shiftRight_eq_div_pow]
  have := v.isLt
  omega

/-! ### What one byte does, by the parser's state -/

section
variable {c : Config} {b : Byte} {p : Parser}

theorem parserByte_lead_first (hpst : p.pst = .tLead) (hpk : p.pk = 0#4) :
    parserByte c b p =
      ({ p with ppos := p.ppos + 1#32, len16 := shiftIn16 p.len16 b, pk := 1#4 }, .ok) := by
  simp [parserByte, hpst, byteLead, hpk]

theorem parserByte_lead_handshake (hpst : p.pst = .tLead) (hpk : p.pk ≠ 0#4) (hlen : shiftIn16 p.len16 b ≠ 0#16) :
    parserByte c b p =
      ({ p with ppos := p.ppos + 1#32, len16 := shiftIn16 p.len16 b, pk := 0#4, kind := .handshake,
                idlen := shiftIn16 p.len16 b, prem := shiftIn16 p.len16 b, pst := .tId }, .ok) := by
  simp [parserByte, hpst, byteLead, hpk, hlen]

theorem parserByte_lead_data (hpst : p.pst = .tLead) (hpk : p.pk ≠ 0#4) (hlen : shiftIn16 p.len16 b = 0#16) :
    parserByte c b p =
      ({ p with ppos := p.ppos + 1#32, len16 := shiftIn16 p.len16 b, pk := 0#4, kind := .data, pst := .tMark }, .ok) := by
  simp [parserByte, hpst, byteLead, hpk, hlen]

/-- The states that count identifier bytes, each with the state after the last one (41_frame_parser.md R104, R109). -/
abbrev IdentifierThen (st done : ParserState) : Prop := (st, done) ∈ [(.tId, .hDone), (.uId, .bCodec)]

theorem parserByte_identifier {done : ParserState} (hpst : IdentifierThen p.pst done) :
    parserByte c b p =
      ({ p with ppos := p.ppos + 1#32, prem := p.prem - 1#16, pst := if p.prem = 1#16 then done else p.pst }, .ok) := by
  have hlast : p.prem - 1#16 = 0#16 ↔ p.prem = 1#16 := by bv_omega
  have hcases : (p.pst = .tId ∧ done = .hDone) ∨ (p.pst = .uId ∧ done = .bCodec) := by
    simpa [IdentifierThen] using hpst
  obtain ⟨hst, rfl⟩ | ⟨hst, rfl⟩ := hcases
  · simp only [parserByte, hst, byteId, hlast]
    split_ifs <;> rfl
  · simp only [parserByte, hst, byteUdpId, hlast]
    split_ifs <;> rfl

theorem parserByte_marker_first (hpst : p.pst = .tMark) (hpk : p.pk = 0#4) :
    parserByte c b p = ({ p with ppos := p.ppos + 1#32, pk := 1#4 }, .ok) := by
  simp [parserByte, hpst, byteMark, hpk]

theorem parserByte_marker_last (hpst : p.pst = .tMark) (hpk : p.pk ≠ 0#4) :
    parserByte c b p =
      ({ p with ppos := p.ppos + 1#32, pk := 0#4,
                pst := if c.tcpDataLenBytes = 4 then .tDlen else .bCodec }, .ok) := by
  simp [parserByte, hpst, byteMark, hpk]

theorem parserByte_dataLength_more (hpst : p.pst = .tDlen) (hpk : p.pk ≠ 3#4) :
    parserByte c b p =
      ({ p with ppos := p.ppos + 1#32, pdlen := shiftIn32 p.pdlen b, pk := p.pk + 1#4 }, .ok) := by
  have hmore : p.pk + 1#4 ≠ 4#4 := by bv_omega
  simp [parserByte, hpst, byteDlen, hmore]

theorem parserByte_dataLength_last (hpst : p.pst = .tDlen) (hpk : p.pk = 3#4) :
    parserByte c b p =
      ({ p with ppos := p.ppos + 1#32, pdlen := shiftIn32 p.pdlen b, pk := 0#4, pst := .bCodec }, .ok) := by
  simp [parserByte, hpst, byteDlen, hpk]

theorem parserByte_header_len16 (hpst : p.pst = .uHdr) (hpk : p.pk = 0#4 ∨ p.pk = 1#4) :
    parserByte c b p =
      ({ p with ppos := p.ppos + 1#32, len16 := shiftIn16 p.len16 b, pk := p.pk + 1#4 }, .ok) := by
  obtain hpk | hpk := hpk <;> simp [parserByte, hpst, byteHeader, headerField, hpk]

theorem parserByte_header_pktid (hpst : p.pst = .uHdr) (hpk : p.pk = 2#4 ∨ p.pk = 3#4) :
    parserByte c b p =
      ({ p with ppos := p.ppos + 1#32, pktid := shiftIn16 p.pktid b, pk := p.pk + 1#4 }, .ok) := by
  obtain hpk | hpk := hpk <;> simp [parserByte, hpst, byteHeader, headerField, hpk]

theorem parserByte_header_ptype (hpst : p.pst = .uHdr) (hpk : p.pk = 4#4) :
    parserByte c b p = ({ p with ppos := p.ppos + 1#32, ptype := b, pk := p.pk + 1#4 }, .ok) := by
  simp [parserByte, hpst, byteHeader, headerField, hpk]

theorem parserByte_header_locid (hpst : p.pst = .uHdr) (hpk : p.pk = 5#4) :
    parserByte c b p = ({ p with ppos := p.ppos + 1#32, locid := b, pk := 0#4, pst := .uIdlen }, .ok) := by
  simp [parserByte, hpst, byteHeader, headerField, hpk]

theorem parserByte_idLen_first (hpst : p.pst = .uIdlen) (hpk : p.pk = 0#4) :
    parserByte c b p =
      ({ p with ppos := p.ppos + 1#32, idlen := shiftIn16 p.idlen b, pk := 1#4 }, .ok) := by
  simp [parserByte, hpst, byteIdLen, hpk]

theorem parserByte_idLen_empty (hpst : p.pst = .uIdlen) (hpk : p.pk ≠ 0#4) (hlen : shiftIn16 p.idlen b = 0#16) :
    parserByte c b p =
      ({ p with ppos := p.ppos + 1#32, idlen := shiftIn16 p.idlen b, pk := 0#4, pst := .bCodec }, .ok) := by
  simp [parserByte, hpst, byteIdLen, hpk, hlen]

theorem parserByte_idLen_nonempty (hpst : p.pst = .uIdlen) (hpk : p.pk ≠ 0#4) (hlen : shiftIn16 p.idlen b ≠ 0#16) :
    parserByte c b p =
      ({ p with ppos := p.ppos + 1#32, idlen := shiftIn16 p.idlen b, pk := 0#4, prem := shiftIn16 p.idlen b,
                pst := .uId }, .ok) := by
  simp [parserByte, hpst, byteIdLen, hpk, hlen]

theorem codecKnown_iff (b : Byte) : codecKnown b = true ↔ b ∈ [0x07#8, 0x08#8, 0x8E#8, 0x0C#8, 0x10#8] :=
  List.contains_iff_mem

theorem parserByte_codec_known (hpst : p.pst = .bCodec) (hknown : b ∈ [0x07#8, 0x08#8, 0x8E#8, 0x0C#8, 0x10#8]) :
    parserByte c b p =
      ({ p with ppos := p.ppos + 1#32, codec := b, haveCodec := true, pst := .bCount }, .ok) := by
  rw [← codecKnown_iff] at hknown
  simp [parserByte, hpst, byteCodec, hknown]

theorem parserByte_codec_unknown (hpst : p.pst = .bCodec)
    (hunknown : b ∉ [0x07#8, 0x08#8, 0x8E#8, 0x0C#8, 0x10#8]) :
    parserByte c b p =
      ({ p with ppos := p.ppos + 1#32, codec := b, haveCodec := true, perr := .unsupportedCodec, pst := .error },
        .unsupportedCodec) := by
  rw [← codecKnown_iff] at hunknown
  simp [parserByte, hpst, byteCodec, hunknown]

theorem parserByte_count (hpst : p.pst = .bCount) :
    parserByte c b p =
      ({ p with ppos := p.ppos + 1#32, nrec := b, haveCount := true, pboff := p.ppos + 1#32, pst := .bBody }, .ok) := by
  simp [parserByte, hpst, byteCount]

theorem parserByte_accepting (hpst : p.pst = .bBody ∨ p.pst = .hDone) :
    parserByte c b p = ({ p with ppos := p.ppos + 1#32 }, .ok) := by
  obtain hpst | hpst := hpst <;> simp [parserByte, hpst]

theorem parserClosed_iff (x : ParserState) : parserClosed x = true ↔ x = .idle ∨ x = .closed ∨ x = .error := by
  cases x <;> simp [parserClosed]

theorem parserEnd_of_closed (hclosed : parserClosed p.pst = true) : parserEnd p = (p, .parserClosed) :=
  if_pos hclosed

theorem parserEnd_of_accepting (hpst : p.pst = .bBody ∨ p.pst = .hDone) :
    parserEnd p = ({ p with pst := .closed }, .ok) := by
  obtain hpst | hpst := hpst <;> simp [parserEnd, hpst, parserClosed, parserAccepting]

theorem parserEnd_of_unfinished (hopen : ¬parserClosed p.pst = true) (hunfinished : ¬parserAccepting p.pst = true) :
    parserEnd p = ({ p with perr := .truncated, pk := 0#4, prem := 0#16, pst := .error }, .truncated) :=
  (if_neg hopen).trans (if_neg hunfinished)

/-- Only a parser with no frame open answers PARSER_CLOSED. -/
theorem parserEnd_closed_iff : (parserEnd p).2 = .parserClosed ↔ parserClosed p.pst = true := by
  obtain ⟨hclosed, hend⟩ | ⟨haccepting, hend⟩ | ⟨hopen, -, hend⟩ := parserEnd_cases p
  · simp [hend, hclosed]
  · obtain hpst | hpst := (parserAccepting_iff _).1 haccepting <;> simp [hend, hpst, parserClosed]
  · simp [hend, hopen]

end

/-! ### The commands -/

section
variable {s : State} {b : Byte} {q : Parser} {e : Err}

/-- PRS.BYTE writes what the parser answers, and nothing else (41_frame_parser.md R100). -/
theorem exec_prsByte_of (h : parserByte s.cfg b s.prs = (q, e)) :
    exec (.prsByte b) s = .next { s with err := e, prs := q } :=
  congrArg (fun r => Host.Outcome.next (s.withParser r)) h

theorem exec_prsEnd_of (h : parserEnd s.prs = (q, e)) : exec .prsEnd s = .next { s with err := e, prs := q } :=
  congrArg (fun r => Host.Outcome.next (s.withParser r)) h

theorem exec_prsByte_of_closed (h : parserClosed s.prs.pst = true) :
    exec (.prsByte b) s = .next { s with err := .parserClosed } :=
  exec_prsByte_of (parserByte_of_closed h)

theorem exec_prsEnd_of_closed (h : parserClosed s.prs.pst = true) :
    exec .prsEnd s = .next { s with err := .parserClosed } :=
  exec_prsEnd_of (parserEnd_of_closed h)

end

/-- The parser sees one parameter only, TCP_DATA_LEN_BYTES. -/
theorem parserByte_congr {c c' : Config} (h : c.tcpDataLenBytes = c'.tcpDataLenBytes) (b : Byte) (p : Parser) :
    parserByte c b p = parserByte c' b p := by
  simp only [parserByte, byteMark, h]

/-! ### The parser's errors, 41_frame_parser.md R121 -/

/-- A sticky error is recorded in the parser: ERROR with the same code in PERR. -/
def ErrorRecorded (p : Parser) (e : Err) : Prop :=
  (e = .truncated → p.pst = .error ∧ p.perr = .truncated) ∧
    (e = .unsupportedCodec → p.pst = .error ∧ p.perr = .unsupportedCodec)

/-- Of the rules of PRS.BYTE only B_CODEC's can raise one of the two errors. -/
theorem parserByte_errorRecorded (c : Config) (b : Byte) (p : Parser) :
    ErrorRecorded (parserByte c b p).1 (parserByte c b p).2 := by
  unfold parserByte
  cases p.pst with
  | bCodec =>
    simp only [byteCodec]
    split_ifs
    · exact ⟨nofun, nofun⟩
    · exact ⟨nofun, fun _ => ⟨rfl, rfl⟩⟩
  | idle | tLead | tId | tMark | tDlen | uHdr | uIdlen | uId | bCount | bBody | hDone | closed | error =>
    exact ⟨nofun, nofun⟩

theorem parserEnd_errorRecorded (p : Parser) : ErrorRecorded (parserEnd p).1 (parserEnd p).2 := by
  obtain ⟨-, hend⟩ | ⟨-, hend⟩ | ⟨-, -, hend⟩ := parserEnd_cases p <;> rw [hend]
  · exact ⟨nofun, nofun⟩
  · exact ⟨nofun, nofun⟩
  · exact ⟨fun _ => ⟨rfl, rfl⟩, nofun⟩

theorem execXferChunk_errorRecorded {len : Half} {s t : State} (h : execXferChunk len s = .next t) :
    ErrorRecorded t.prs t.err := by
  obtain ⟨-, hunknown⟩ | ⟨-, -, ⟨-, hexceeded⟩ | ⟨-, haccepted⟩⟩ := execXferChunk_cases len s
  · cases hunknown.symm.trans h; exact ⟨nofun, nofun⟩
  · cases hexceeded.symm.trans h; exact ⟨nofun, nofun⟩
  · cases haccepted.symm.trans h
    rw [chunkAccepted_err]
    exact ⟨nofun, nofun⟩

theorem exec_errorRecorded {i : Instr} {s t : State} (h : exec i s = .next t) : ErrorRecorded t.prs t.err := by
  cases i with
  | prsByte b => cases h; exact parserByte_errorRecorded s.cfg b s.prs
  | prsEnd => cases h; exact parserEnd_errorRecorded s.prs
  | xferChunk len => exact execXferChunk_errorRecorded h
  | nop | srst | crcInit | crcByte | prsStart | bldIdack | bldTcpack | bldUdpack | bldImgreq | xferInit | valCheck =>
    cases h; exact ⟨nofun, nofun⟩

/-- In ERROR the parser's own PRS.BYTE and PRS.END find no frame open, so only PRS.START and SRST are left to write it. -/
theorem exec_keeps_failed_parser {i : Instr} {s t : State} (hpst : s.prs.pst = .error) (hsrst : i ≠ .srst)
    (hstart : ∀ m, i ≠ .prsStart m) (h : exec i s = .next t) : t.prs = s.prs := by
  have hclosed : parserClosed s.prs.pst = true := by rw [hpst]; rfl
  by_contra hne
  obtain ⟨m, rfl⟩ | ⟨b, rfl⟩ | rfl := exec_prs_writers h hsrst hne
  · exact hstart m rfl
  · cases (exec_prsByte_of_closed hclosed).symm.trans h; exact hne rfl
  · cases (exec_prsEnd_of_closed hclosed).symm.trans h; exact hne rfl

theorem runCommand_keeps_failed_parser {w : Word} {s t : State} (hpst : s.prs.pst = .error)
    (hsrst : decode w ≠ .ok .srst) (hstart : ∀ m, decode w ≠ .ok (.prsStart m)) (h : runCommand w s = .next t) :
    t.prs = s.prs := by
  obtain ⟨i, hdecode, hexec⟩ | ⟨-, hillegal⟩ := runCommand_cases h
  · rw [hdecode] at hsrst hstart
    exact exec_keeps_failed_parser hpst (fun hi => hsrst (congrArg _ hi)) (fun m hi => hstart m (congrArg _ hi)) hexec
  · cases hillegal; rfl

/-- Of the events only the platform's reset and a command written to CMD reach the parser. -/
theorem perform_keeps_failed_parser {e : Event} {s t : State} (hpst : s.prs.pst = .error) (hreset : e ≠ .platformReset)
    (hcmd : ∀ w, e = .write 0x00 4 w → decode w ≠ .ok .srst ∧ ∀ m, decode w ≠ .ok (.prsStart m))
    (h : perform e s = .next t) : t.prs = s.prs := by
  obtain ⟨_, _, -, -, rfl⟩ | ⟨off, size, w, rfl, hadmitted, hreg, hcommand⟩ | ⟨_, _, w, r, -, -, -, -, rfl⟩ |
    ⟨_, _, _, -, -, -, rfl⟩ | ⟨rfl, -⟩ := perform_cases h
  · rfl
  · obtain ⟨rfl, -, -⟩ := (admitted_iff off size).1 hadmitted
    obtain rfl := regOffset_of_regAt hreg
    obtain ⟨hsrst, hstart⟩ := hcmd w rfl
    exact runCommand_keeps_failed_parser hpst hsrst hstart hcommand
  · exact writeReg_prs r w s
  · rfl
  · exact absurd rfl hreset

/-! ### The obligations -/

/-- Settles O29. -/
theorem prsStartOpensAFrame : Obligations.PrsStartOpensAFrame := by
  refine ⟨by decide, by decide, fun m s => ?_⟩
  cases m with
  | tcp => rfl
  | udp => rfl

/-- Settles O30. -/
theorem closedParserWritesOnlyStatus : Obligations.ClosedParserWritesOnlyStatus := by
  intro s t b
  simp only [← parserClosed_iff]
  refine ⟨fun hclosed => ⟨exec_prsByte_of_closed hclosed, exec_prsEnd_of_closed hclosed⟩, ?_⟩
  rintro hopen (h | h) <;> cases h
  · exact fun herr => hopen (parserByte_closed_iff.1 herr)
  · exact fun herr => hopen (parserEnd_closed_iff.1 herr)

/-- Settles O31. -/
theorem leadingFieldTellsHandshakeFromData : Obligations.LeadingFieldTellsHandshakeFromData := fun _ _ hpst =>
  ⟨fun hpk => exec_prsByte_of (parserByte_lead_first hpst hpk),
    fun hpk hlen => exec_prsByte_of (parserByte_lead_handshake hpst hpk hlen),
    fun hpk hlen => exec_prsByte_of (parserByte_lead_data hpst hpk hlen)⟩

/-- Settles O32; what is written does not need the premise on PREM. -/
theorem identifierBytesAreCountedDown : Obligations.IdentifierBytesAreCountedDown := by
  rintro s b - _ done hmem rfl
  exact exec_prsByte_of (parserByte_identifier hmem)

/-- Settles O33. -/
theorem markerBytesAreSkipped : Obligations.MarkerBytesAreSkipped := by
  intro s b hpst
  refine ⟨fun hpk => exec_prsByte_of (parserByte_marker_first hpst hpk), fun hpk hword => ?_, fun hpk hnone => ?_⟩
  · exact exec_prsByte_of ((parserByte_marker_last hpst hpk).trans (by rw [if_pos hword]))
  · exact exec_prsByte_of ((parserByte_marker_last hpst hpk).trans (by rw [if_neg hnone]))

/-- Settles O34. -/
theorem dataLengthWordIsRecorded : Obligations.DataLengthWordIsRecorded := fun _ _ hpst _ =>
  ⟨fun hpk => exec_prsByte_of (parserByte_dataLength_more hpst hpk),
    fun hpk => exec_prsByte_of (parserByte_dataLength_last hpst hpk)⟩

/-- Settles O35. -/
theorem udpHeaderFieldsAreRecorded : Obligations.UdpHeaderFieldsAreRecorded := fun _ _ hpst _ =>
  ⟨fun hpk => exec_prsByte_of (parserByte_header_len16 hpst hpk),
    fun hpk => exec_prsByte_of (parserByte_header_pktid hpst hpk),
    fun hpk => exec_prsByte_of (parserByte_header_ptype hpst hpk),
    fun hpk => exec_prsByte_of (parserByte_header_locid hpst hpk)⟩

/-- Settles O36. -/
theorem udpIdentifierLengthIsRead : Obligations.UdpIdentifierLengthIsRead := fun _ _ hpst =>
  ⟨fun hpk => exec_prsByte_of (parserByte_idLen_first hpst hpk),
    fun hpk hlen => exec_prsByte_of (parserByte_idLen_empty hpst hpk hlen),
    fun hpk hlen => exec_prsByte_of (parserByte_idLen_nonempty hpst hpk hlen)⟩

/-- Settles O37. -/
theorem codecByteIsChecked : Obligations.CodecByteIsChecked := fun _ _ hpst =>
  ⟨fun hknown => exec_prsByte_of (parserByte_codec_known hpst hknown),
    fun hunknown => exec_prsByte_of (parserByte_codec_unknown hpst hunknown)⟩

/-- Settles O38. -/
theorem countAndBodyBytesAreConsumed : Obligations.CountAndBodyBytesAreConsumed := fun _ _ =>
  ⟨fun hpst => exec_prsByte_of (parserByte_count hpst), fun hpst => exec_prsByte_of (parserByte_accepting hpst)⟩

/-- Settles O39. -/
theorem prsEndClosesOrTruncates : Obligations.PrsEndClosesOrTruncates := by
  refine ⟨by decide, fun s => ?_⟩
  refine ⟨fun hclosed => exec_prsEnd_of_closed ((parserClosed_iff _).2 hclosed),
    fun haccepting => exec_prsEnd_of (parserEnd_of_accepting haccepting), fun hopen hunfinished => ?_⟩
  rw [← parserClosed_iff] at hopen
  rw [← parserAccepting_iff] at hunfinished
  exact exec_prsEnd_of (parserEnd_of_unfinished hopen hunfinished)

/-- Settles O40: each command writes what a function of the parser's registers, and of TCP_DATA_LEN_BYTES, answers. -/
theorem parserCommandsTouchOnlyTheParser : Obligations.ParserCommandsTouchOnlyTheParser := by
  rintro i (⟨m, rfl⟩ | ⟨b, rfl⟩ | rfl) s s' hprs hcfg
  · exact ⟨_, _, rfl, rfl, rfl, rfl, rfl, rfl⟩
  · have hsame : parserByte s.cfg b s.prs = parserByte s'.cfg b s'.prs := by rw [hprs, parserByte_congr hcfg]
    exact ⟨_, _, rfl, rfl, congrArg Prod.fst hsame, congrArg Prod.snd hsame, rfl, rfl⟩
  · have hsame : parserEnd s.prs = parserEnd s'.prs := by rw [hprs]
    exact ⟨_, _, rfl, rfl, congrArg Prod.fst hsame, congrArg Prod.snd hsame, rfl, rfl⟩

/-- Settles O41. -/
theorem parserErrorIsSticky : Obligations.ParserErrorIsSticky := by
  refine ⟨fun _ _ _ => exec_errorRecorded, fun s b hpst => ?_, fun s t hpst hstep hreset hcmd => ?_⟩
  · have hclosed := (parserClosed_iff s.prs.pst).2 (.inr (.inr hpst))
    exact ⟨exec_prsByte_of_closed hclosed, exec_prsEnd_of_closed hclosed⟩
  · obtain ⟨-, ⟨-, rfl⟩ | ⟨e, rest, hpending, hperform⟩⟩ := step_cases hstep
    · rfl
    · rw [hpending] at hreset hcmd
      exact perform_keeps_failed_parser (s := { s with pending := rest }) hpst (by rintro rfl; exact hreset rest rfl)
        (fun w he => hcmd w rest (by rw [he])) hperform

/-- Settles O42. -/
theorem fieldsAreBigEndian : Obligations.FieldsAreBigEndian :=
  ⟨shiftIn16_toNat, shiftIn32_toNat, foldl_shiftIn16_be2, foldl_shiftIn32_be4⟩

end Sys2Proof.Machine

/-! Whole frames of 41_frame_parser.md: what the parser's registers hold after a run of bytes, and the frames it accepts
(R115–R118). -/

namespace Sys2Proof.Machine

/-! ### Runs of bytes -/

/-- The parser's registers after PRS.BYTE for each byte in order. -/
def parserRun (c : Config) (p : Parser) (bytes : List Byte) : Parser :=
  bytes.foldl (fun q b => (parserByte c b q).1) p

@[simp] theorem parserRun_nil (c : Config) (p : Parser) : parserRun c p [] = p := rfl

@[simp] theorem parserRun_cons (c : Config) (p : Parser) (b : Byte) (bytes : List Byte) :
    parserRun c p (b :: bytes) = parserRun c (parserByte c b p).1 bytes := rfl

theorem parserRun_append (c : Config) (p : Parser) (xs ys : List Byte) :
    parserRun c p (xs ++ ys) = parserRun c (parserRun c p xs) ys :=
  List.foldl_append

/-- PRS.END overwrites STATUS.ERR, so of the bytes before it only the parser's registers count. -/
theorem execAll_bytes_end (bytes : List Byte) (s : State) :
    execAll (bytes.map .prsByte ++ [.prsEnd]) s = .next (s.withParser (parserEnd (parserRun s.cfg s.prs bytes))) := by
  induction bytes generalizing s with
  | nil => rfl
  | cons b bytes ih => exact ih (s.withParser (parserByte s.cfg b s.prs))

theorem execAll_frameCommands (m : Transport) (frame : List Byte) (s : State) :
    execAll (frameCommands m frame) s =
      .next (s.withParser (parserEnd (parserRun s.cfg (parserStart m) frame))) :=
  execAll_bytes_end frame (s.withParser (parserStart m, .ok))

/-! ### Where a byte can take the parser -/

/-- The parser states a byte can lead to (41_frame_parser.md R103–R113). -/
def successors : ParserState → List ParserState
  | .tLead => [.tLead, .tId, .tMark]
  | .tId => [.tId, .hDone]
  | .tMark => [.tMark, .tDlen, .bCodec]
  | .tDlen => [.tDlen, .bCodec]
  | .uHdr => [.uHdr, .uIdlen]
  | .uIdlen => [.uIdlen, .bCodec, .uId]
  | .uId => [.uId, .bCodec]
  | .bCodec => [.bCount, .error]
  | .bCount => [.bBody]
  | .bBody => [.bBody]
  | .hDone => [.hDone]
  | .idle => [.idle]
  | .closed => [.closed]
  | .error => [.error]

theorem parserByte_pst_mem_successors (c : Config) (b : Byte) (p : Parser) :
    (parserByte c b p).1.pst ∈ successors p.pst := by
  cases hpst : p.pst with
  | tLead | tId | tMark | tDlen | uHdr | uIdlen | uId | bCodec =>
    simp only [parserByte, hpst, byteLead, byteId, byteMark, byteDlen, byteHeader, byteIdLen, byteUdpId, byteCodec]
    split_ifs <;> simp [successors]
  | bCount | bBody | hDone | idle | closed | error => simp [parserByte, hpst, byteCount, successors]

/-- No byte leads back to the leading field. -/
theorem ne_tLead_of_mem_successors {x y : ParserState} (hx : x ≠ .tLead) (hy : y ∈ successors x) : y ≠ .tLead := by
  rintro rfl
  cases x <;> simp [successors] at hx hy

/-- A set of parser states closed under `successors` is never left by bytes. -/
theorem parserRun_pst_of_successors {P : ParserState → Prop} (hP : ∀ x, P x → ∀ y ∈ successors x, P y) (c : Config)
    {p : Parser} (hp : P p.pst) (bytes : List Byte) : P (parserRun c p bytes).pst := by
  induction bytes generalizing p with
  | nil => exact hp
  | cons b bytes ih => exact ih (hP _ hp _ (parserByte_pst_mem_successors c b p))

/-- Bytes alone never close a frame: CLOSED is PRS.END's (41_frame_parser.md R114). -/
theorem parserRun_pst_ne_closed (c : Config) {p : Parser} (hp : p.pst ≠ .closed) (bytes : List Byte) :
    (parserRun c p bytes).pst ≠ .closed :=
  parserRun_pst_of_successors (P := (· ≠ .closed)) (fun x _ => by cases x <;> simp_all [successors]) c hp bytes

theorem parserRun_pst_error (c : Config) {p : Parser} (hp : p.pst = .error) (bytes : List Byte) :
    (parserRun c p bytes).pst = .error :=
  parserRun_pst_of_successors (P := (· = .error)) (by rintro _ rfl; simp [successors]) c hp bytes

/-- KIND is decided by the leading field and by PRS.START, and no later byte changes it (41_frame_parser.md R101, R103). -/
theorem parserByte_kind (c : Config) (b : Byte) {p : Parser} (hp : p.pst ≠ .tLead) :
    (parserByte c b p).1.kind = p.kind := by
  cases hpst : p.pst with
  | tLead => exact absurd hpst hp
  | tId | tMark | tDlen | uHdr | uIdlen | uId | bCodec =>
    simp only [parserByte, hpst, byteId, byteMark, byteDlen, byteHeader, headerField, byteIdLen, byteUdpId, byteCodec]
    split_ifs <;> rfl
  | bCount | bBody | hDone | idle | closed | error => simp [parserByte, hpst, byteCount]

theorem parserRun_kind (c : Config) {p : Parser} (hp : p.pst ≠ .tLead) (bytes : List Byte) :
    (parserRun c p bytes).kind = p.kind := by
  induction bytes generalizing p with
  | nil => rfl
  | cons b bytes ih =>
    have hne := ne_tLead_of_mem_successors hp (parserByte_pst_mem_successors c b p)
    exact (ih hne).trans (parserByte_kind c b hp)

/-! ### Inside a field -/

/-- Before its last byte a field only moves the byte index on. -/
theorem parserByte_inside_field (c : Config) (b : Byte) {p : Parser} (h : p.pk < lastIndex p.pst) :
    (parserByte c b p).1.pst = p.pst ∧ (parserByte c b p).1.pk = p.pk + 1#4 := by
  cases hpst : p.pst with
  | tLead =>
    have hpk : p.pk = 0#4 := by simpa [hpst, lastIndex] using h
    simp [parserByte_lead_first hpst hpk, hpst, hpk]
  | tMark =>
    have hpk : p.pk = 0#4 := by simpa [hpst, lastIndex] using h
    simp [parserByte_marker_first hpst hpk, hpst, hpk]
  | uIdlen =>
    have hpk : p.pk = 0#4 := by simpa [hpst, lastIndex] using h
    simp [parserByte_idLen_first hpst hpk, hpst, hpk]
  | tDlen =>
    have hpk : p.pk ≠ 3#4 := BitVec.ne_of_lt (by simpa [hpst, lastIndex] using h)
    simp [parserByte_dataLength_more hpst hpk, hpst]
  | uHdr =>
    have hpk : p.pk < 5#4 := by simpa [hpst, lastIndex] using h
    simp [parserByte, hpst, byteHeader, hpk]
  | idle | tId | uId | bCodec | bCount | bBody | hDone | closed | error => simp [hpst, lastIndex] at h

theorem parserRun_inside_field (c : Config) {p : Parser} {bytes : List Byte}
    (h : p.pk.toNat + bytes.length ≤ (lastIndex p.pst).toNat) : (parserRun c p bytes).pst = p.pst := by
  induction bytes generalizing p with
  | nil => rfl
  | cons b bytes ih =>
    rw [List.length_cons] at h
    obtain ⟨hpst, hpk⟩ := parserByte_inside_field c b (p := p) (by rw [BitVec.lt_def]; omega)
    have hnext : (p.pk + 1#4).toNat = p.pk.toNat + 1 := by
      have := (lastIndex p.pst).isLt
      rw [BitVec.toNat_add, BitVec.toNat_ofNat]
      omega
    rw [parserRun_cons, ih (by rw [hpst, hpk, hnext]; omega), hpst]

/-! ### Runs over whole fields -/

/-- An identifier: PREM counts the bytes down, and the parser moves on with the last one (41_frame_parser.md R104, R109). -/
theorem parserRun_identifier (c : Config) {p : Parser} {done : ParserState} (hpst : IdentifierThen p.pst done)
    {bytes : List Byte} (hlen : bytes.length ≤ p.prem.toNat) (hprem : p.prem ≠ 0#16) :
    parserRun c p bytes =
      { p with ppos := p.ppos + BitVec.ofNat 32 bytes.length
               prem := p.prem - BitVec.ofNat 16 bytes.length
               pst := if bytes.length = p.prem.toNat then done else p.pst } := by
  induction bytes generalizing p with
  | nil =>
    have hne : ¬0 = p.prem.toNat := fun h => hprem (BitVec.eq_of_toNat_eq h.symm)
    simp [hne]
  | cons b bytes ih =>
    rw [List.length_cons] at hlen
    rw [parserRun_cons, parserByte_identifier hpst]
    have hppos : p.ppos + 1#32 + BitVec.ofNat 32 bytes.length = p.ppos + BitVec.ofNat 32 (bytes.length + 1) := by
      rw [Nat.add_comm, BitVec.ofNat_add, BitVec.add_assoc]
    have hcount : p.prem - 1#16 - BitVec.ofNat 16 bytes.length = p.prem - BitVec.ofNat 16 (bytes.length + 1) := by
      rw [Nat.add_comm, BitVec.ofNat_add, ← sub_sub]
    by_cases hone : p.prem = 1#16
    · obtain rfl : bytes = [] := by
        rw [hone] at hlen
        exact List.eq_nil_of_length_eq_zero (by simpa using hlen)
      simp [hone]
    · have hone' : p.prem.toNat ≠ 1 := fun h => hone (BitVec.eq_of_toNat_eq h)
      have hrest : (p.prem - 1#16).toNat = p.prem.toNat - 1 := by bv_omega
      have hlast : bytes.length = p.prem.toNat - 1 ↔ bytes.length + 1 = p.prem.toNat := by omega
      have hih := ih (p := { p with ppos := p.ppos + 1#32, prem := p.prem - 1#16 }) hpst
        (by rw [hrest]; omega) (by bv_omega)
      simp only [hrest, hlast, hppos, hcount] at hih
      simp only [hone, if_false, hih, List.length_cons]

/-- Body and trailing bytes only advance PPOS (41_frame_parser.md R112, R113). -/
theorem parserRun_accepting (c : Config) {p : Parser} (hpst : p.pst = .bBody ∨ p.pst = .hDone) (bytes : List Byte) :
    parserRun c p bytes = { p with ppos := p.ppos + BitVec.ofNat 32 bytes.length } := by
  induction bytes generalizing p with
  | nil => simp
  | cons b bytes ih =>
    rw [parserRun_cons, parserByte_accepting hpst, ih (by exact hpst), List.length_cons, Nat.add_comm, BitVec.ofNat_add,
      ← BitVec.add_assoc]

/-! ### Runs over the fields of a frame -/

/-- A field that starts at 0 holds the value whose two bytes it has taken (41_frame_parser.md R119). -/
theorem shiftIn16_bytes (v : Half) : shiftIn16 (shiftIn16 0#16 (v.extractLsb' 8 8)) (v.extractLsb' 0 8) = v :=
  foldl_shiftIn16_be2 v

theorem be2_shiftIn16 (x y : Byte) : be2 (shiftIn16 (shiftIn16 0#16 x) y) = [x, y] := by
  have hx := x.isLt
  have hy := y.isLt
  have hupper : (shiftIn16 (shiftIn16 0#16 x) y).extractLsb' 8 8 = x := by
    apply BitVec.eq_of_toNat_eq
    simp only [BitVec.extractLsb'_toNat, shiftIn16_toNat, BitVec.toNat_ofNat, Nat.shiftRight_eq_div_pow]
    omega
  have hlower : (shiftIn16 (shiftIn16 0#16 x) y).extractLsb' 0 8 = y := by
    apply BitVec.eq_of_toNat_eq
    simp only [BitVec.extractLsb'_toNat, shiftIn16_toNat, BitVec.toNat_ofNat, Nat.shiftRight_eq_div_pow]
    omega
  rw [be2, hupper, hlower]

theorem exists_be2_of_length {bytes : List Byte} (h : bytes.length = 2) : ∃ v, bytes = be2 v := by
  obtain ⟨x, y, rfl⟩ := List.length_eq_two.1 h
  exact ⟨_, (be2_shiftIn16 x y).symm⟩

section
variable (c : Config) {p : Parser}

theorem parserRun_pair {x y : Byte} {q r : Parser} {e e' : Err} (hx : parserByte c x p = (q, e))
    (hy : parserByte c y q = (r, e')) : parserRun c p [x, y] = r := by
  rw [parserRun_cons, hx, parserRun_cons, hy, parserRun_nil]

theorem parserRun_lead_handshake {len : Half} (hlen : len ≠ 0#16) :
    parserRun c (parserStart .tcp) (be2 len) =
      { parserStart .tcp with ppos := 2#32, len16 := len, kind := .handshake, idlen := len, prem := len, pst := .tId } := by
  have hrun := parserRun_pair c (parserByte_lead_first (p := parserStart .tcp) rfl rfl)
    (parserByte_lead_handshake rfl (by simp) (ne_of_eq_of_ne (shiftIn16_bytes len) hlen))
  rw [be2, hrun]
  simp [parserStart, Parser.cleared, shiftIn16_bytes]

theorem parserRun_lead_data :
    parserRun c (parserStart .tcp) (be2 0#16) =
      { parserStart .tcp with ppos := 2#32, kind := .data, pst := .tMark } :=
  parserRun_pair c (parserByte_lead_first (p := parserStart .tcp) rfl rfl) (parserByte_lead_data rfl (by simp) rfl)

theorem parserRun_marker (hpst : p.pst = .tMark) (hpk : p.pk = 0#4) (x y : Byte) :
    parserRun c p [x, y] =
      { p with ppos := p.ppos + 2#32, pst := if c.tcpDataLenBytes = 4 then .tDlen else .bCodec } := by
  rw [parserRun_pair c (parserByte_marker_first hpst hpk) (parserByte_marker_last hpst (by simp))]
  simp [BitVec.add_assoc, hpk]

theorem parserRun_dataLength_pst (hpst : p.pst = .tDlen) (hpk : p.pk = 0#4) (x y z w : Byte) :
    (parserRun c p [x, y, z, w]).pst = .bCodec := by
  simp [parserByte_dataLength_more, parserByte_dataLength_last, hpst, hpk]

/-- The six header bytes go to their fields (41_frame_parser.md R107). -/
theorem parserRun_udpHeader (b₀ b₁ b₂ b₃ b₄ b₅ : Byte) :
    parserRun c (parserStart .udp) [b₀, b₁, b₂, b₃, b₄, b₅] =
      { parserStart .udp with
        ppos := 6#32, len16 := shiftIn16 (shiftIn16 0#16 b₀) b₁, pktid := shiftIn16 (shiftIn16 0#16 b₂) b₃
        ptype := b₄, locid := b₅, pst := .uIdlen } := by
  simp [parserByte_header_len16, parserByte_header_pktid, parserByte_header_ptype, parserByte_header_locid, parserStart,
    Parser.cleared]

theorem parserRun_idLen (hpst : p.pst = .uIdlen) (hpk : p.pk = 0#4) (hidlen : p.idlen = 0#16) (len : Half) :
    parserRun c p (be2 len) =
      { p with ppos := p.ppos + 2#32, idlen := len, prem := if len = 0#16 then p.prem else len
               pst := if len = 0#16 then .bCodec else .uId } := by
  have htaken : shiftIn16 (shiftIn16 p.idlen (len.extractLsb' 8 8)) (len.extractLsb' 0 8) = len := by
    rw [hidlen, shiftIn16_bytes]
  have hfirst := parserByte_idLen_first (c := c) (b := len.extractLsb' 8 8) hpst hpk
  by_cases hlen : len = 0#16
  · rw [be2, parserRun_pair c hfirst (parserByte_idLen_empty hpst (by simp) (htaken.trans hlen))]
    simp [htaken, if_pos hlen, BitVec.add_assoc, hpk]
  · rw [be2, parserRun_pair c hfirst (parserByte_idLen_nonempty hpst (by simp) (ne_of_eq_of_ne htaken hlen))]
    simp [htaken, hlen, BitVec.add_assoc, hpk]

/-- The length and the identifier, which the parser only measures; an empty one is no bytes at all. -/
theorem parserRun_udpIdentifier (hpst : p.pst = .uIdlen) (hpk : p.pk = 0#4) (hidlen : p.idlen = 0#16)
    (hprem : p.prem = 0#16) {len : Half} {ident : List Byte} (hident : ident.length = len.toNat) :
    parserRun c p (be2 len ++ ident) =
      { p with ppos := p.ppos + BitVec.ofNat 32 (2 + len.toNat), idlen := len, pst := .bCodec } := by
  rw [parserRun_append, parserRun_idLen c hpst hpk hidlen]
  by_cases hlen : len = 0#16
  · subst hlen
    obtain rfl : ident = [] := List.eq_nil_of_length_eq_zero hident
    simp
  · simp only [hlen, if_false]
    rw [parserRun_identifier c (done := .bCodec) (by simp [IdentifierThen]) hident.le hlen]
    simp [hident, hprem, BitVec.ofNat_add, BitVec.add_assoc]

/-- A known codec and the record count; PBOFF is the offset after them (41_frame_parser.md R110, R111). -/
theorem parserRun_block (hpst : p.pst = .bCodec) {codec : Byte}
    (hknown : codec ∈ [0x07#8, 0x08#8, 0x8E#8, 0x0C#8, 0x10#8]) (count : Byte) :
    parserRun c p [codec, count] =
      { p with ppos := p.ppos + 2#32, codec := codec, haveCodec := true, nrec := count, haveCount := true
               pboff := p.ppos + 2#32, pst := .bBody } := by
  rw [parserRun_pair c (parserByte_codec_known hpst hknown) (parserByte_count rfl)]
  simp [BitVec.add_assoc]

/-- The registers at the end of a datagram: each field in its own (41_frame_parser.md R117, R118). -/
theorem parserRun_udpDatagram (len pktid idlen : Half) (ptype locid : Byte) {codec : Byte} (count : Byte)
    {ident : List Byte} (body : List Byte) (hident : ident.length = idlen.toNat)
    (hknown : codec ∈ [0x07#8, 0x08#8, 0x8E#8, 0x0C#8, 0x10#8]) :
    parserRun c (parserStart .udp)
        (be2 len ++ be2 pktid ++ [ptype, locid] ++ be2 idlen ++ ident ++ [codec, count] ++ body) =
      { parserStart .udp with
        pst := .bBody, len16 := len, pktid := pktid, ptype := ptype, locid := locid, idlen := idlen, codec := codec
        nrec := count, haveCodec := true, haveCount := true
        ppos := BitVec.ofNat 32 (10 + idlen.toNat + body.length), pboff := BitVec.ofNat 32 (10 + idlen.toNat) } := by
  have hparts : be2 len ++ be2 pktid ++ [ptype, locid] ++ be2 idlen ++ ident ++ [codec, count] ++ body =
      [len.extractLsb' 8 8, len.extractLsb' 0 8, pktid.extractLsb' 8 8, pktid.extractLsb' 0 8, ptype, locid] ++
        (be2 idlen ++ ident) ++ [codec, count] ++ body := by
    simp [be2]
  have hoffset (n : Word) : 6#32 + (2#32 + n) + 2#32 = 10#32 + n := by bv_omega
  rw [hparts, parserRun_append, parserRun_append, parserRun_append, parserRun_udpHeader, shiftIn16_bytes, shiftIn16_bytes,
    parserRun_udpIdentifier c rfl rfl rfl rfl hident, parserRun_block c rfl hknown, parserRun_accepting c (.inl rfl)]
  simp only [BitVec.ofNat_add, hoffset]

end

/-! ### The frames a parser state accepts -/

/-- After these bytes PRS.END succeeds (41_frame_parser.md R115). -/
def Accepts (c : Config) (p : Parser) (bytes : List Byte) : Prop :=
  parserAccepting (parserRun c p bytes).pst = true

/-- The part that ends every data frame: a known codec, a count and any body (41_frame_parser.md R110–R112). -/
def IsBlock (bytes : List Byte) : Prop :=
  ∃ (codec count : Byte) (body : List Byte), codec ∈ [0x07#8, 0x08#8, 0x8E#8, 0x0C#8, 0x10#8] ∧
    bytes = [codec, count] ++ body

section
variable {c : Config} {p : Parser} {bytes : List Byte}

theorem accepts_append {xs ys : List Byte} : Accepts c p (xs ++ ys) ↔ Accepts c (parserRun c p xs) ys := by
  rw [Accepts, parserRun_append, Accepts]

theorem accepts_of_accepting (hpst : p.pst = .bBody ∨ p.pst = .hDone) : Accepts c p bytes := by
  rw [Accepts, parserRun_accepting c hpst]
  exact (parserAccepting_iff p.pst).2 hpst

/-- Where fewer than `n` bytes do not complete a frame, an accepted run is `n` bytes and an accepted rest. -/
theorem accepts_iff_split {n : Nat} (hshort : ∀ xs : List Byte, xs.length < n → ¬Accepts c p xs) :
    Accepts c p bytes ↔ ∃ xs ys, xs.length = n ∧ bytes = xs ++ ys ∧ Accepts c (parserRun c p xs) ys := by
  constructor
  · intro h
    have hlen : n ≤ bytes.length := Nat.le_of_not_lt fun hlt => hshort bytes hlt h
    rw [← List.take_append_drop n bytes, accepts_append] at h
    exact ⟨bytes.take n, bytes.drop n, List.length_take_of_le hlen, (List.take_append_drop n bytes).symm, h⟩
  · rintro ⟨xs, ys, -, rfl, h⟩
    exact accepts_append.2 h

/-- A frame does not end inside a field the byte index counts. -/
theorem accepts_iff_field {n : Nat} (hpk : p.pk = 0#4) (hpst : parserAccepting p.pst = false)
    (hn : (lastIndex p.pst).toNat + 1 = n) :
    Accepts c p bytes ↔ ∃ xs ys, xs.length = n ∧ bytes = xs ++ ys ∧ Accepts c (parserRun c p xs) ys := by
  refine accepts_iff_split fun xs hlen => ?_
  rw [Accepts, parserRun_inside_field c (by rw [hpk, BitVec.toNat_ofNat]; omega), hpst]
  exact Bool.false_ne_true

/-- Nor inside an identifier. -/
theorem accepts_iff_identifier {done : ParserState} (hpst : IdentifierThen p.pst done) (hprem : p.prem ≠ 0#16) :
    Accepts c p bytes ↔
      ∃ xs ys, xs.length = p.prem.toNat ∧ bytes = xs ++ ys ∧ Accepts c (parserRun c p xs) ys := by
  refine accepts_iff_split fun xs hlen => ?_
  rw [Accepts, parserRun_identifier c hpst hlen.le hprem, parserAccepting_iff]
  have hcases : p.pst = .tId ∨ p.pst = .uId := by
    simp only [IdentifierThen, List.mem_cons, Prod.mk.injEq, List.not_mem_nil, or_false] at hpst
    exact hpst.imp And.left And.left
  obtain h | h := hcases <;> simp [h, hlen.ne]

theorem accepts_iff_isBlock (hpst : p.pst = .bCodec) : Accepts c p bytes ↔ IsBlock bytes := by
  constructor
  · intro h
    match bytes with
    | [] => simp [Accepts, hpst, parserAccepting] at h
    | [codec] =>
      by_cases hknown : codec ∈ [0x07#8, 0x08#8, 0x8E#8, 0x0C#8, 0x10#8]
      · simp [Accepts, parserByte_codec_known hpst hknown, parserAccepting] at h
      · simp [Accepts, parserByte_codec_unknown hpst hknown, parserAccepting] at h
    | codec :: count :: body =>
      refine ⟨codec, count, body, ?_, rfl⟩
      by_contra hunknown
      rw [Accepts, parserRun_cons, parserByte_codec_unknown hpst hunknown, parserRun_pst_error c rfl] at h
      cases h
  · rintro ⟨codec, count, body, hknown, rfl⟩
    rw [accepts_append, parserRun_block c hpst hknown]
    exact accepts_of_accepting (.inl rfl)

end

/-- What PRS.END makes of a frame: CLOSED exactly when the bytes are accepted, with KIND as the bytes left it. -/
theorem frame_ends (m : Transport) (frame : List Byte) (s : State) :
    ∃ t, execAll (frameCommands m frame) s = .next t ∧
      (t.prs.pst = .closed ↔ Accepts s.cfg (parserStart m) frame) ∧
      t.prs.kind = (parserRun s.cfg (parserStart m) frame).kind := by
  refine ⟨_, execAll_frameCommands m frame s, ?_⟩
  have hopen : (parserRun s.cfg (parserStart m) frame).pst ≠ .closed :=
    parserRun_pst_ne_closed s.cfg (by cases m <;> decide) frame
  rw [State.withParser_prs, Accepts]
  obtain ⟨hclosed, hend⟩ | ⟨haccepting, hend⟩ | ⟨-, hunfinished, hend⟩ :=
    parserEnd_cases (parserRun s.cfg (parserStart m) frame) <;> rw [hend]
  · obtain hpst | hpst | hpst := (parserClosed_iff _).1 hclosed <;> simp_all [parserAccepting]
  · simp [haccepting]
  · simp [hunfinished]

/-! ### TCP frames, 41_frame_parser.md R116 -/

section
variable {c : Config} {frame rest : List Byte} {len : Half}

theorem accepts_tcp_iff :
    Accepts c (parserStart .tcp) frame ↔
      ∃ len rest, frame = be2 len ++ rest ∧ Accepts c (parserRun c (parserStart .tcp) (be2 len)) rest := by
  rw [accepts_iff_field (n := 2) rfl rfl rfl]
  constructor
  · rintro ⟨xs, ys, hlen, rfl, h⟩
    obtain ⟨v, rfl⟩ := exists_be2_of_length hlen
    exact ⟨v, ys, rfl, h⟩
  · rintro ⟨v, ys, rfl, h⟩
    exact ⟨be2 v, ys, rfl, rfl, h⟩

theorem parserRun_tcp_kind :
    (parserRun c (parserStart .tcp) (be2 len ++ rest)).kind = if len = 0#16 then .data else .handshake := by
  rw [parserRun_append]
  split_ifs with hlen
  · rw [hlen, parserRun_lead_data, parserRun_kind c (by simp)]
  · rw [parserRun_lead_handshake c hlen, parserRun_kind c (by simp)]

theorem accepts_handshake_iff (hlen : len ≠ 0#16) :
    Accepts c (parserRun c (parserStart .tcp) (be2 len)) rest ↔
      ∃ ident trailing : List Byte, ident.length = len.toNat ∧ rest = ident ++ trailing := by
  rw [parserRun_lead_handshake c hlen, accepts_iff_identifier (done := .hDone) (by simp [IdentifierThen]) hlen]
  constructor
  · rintro ⟨ident, trailing, hident, rfl, -⟩
    exact ⟨ident, trailing, hident, rfl⟩
  · rintro ⟨ident, trailing, hident, rfl⟩
    refine ⟨ident, trailing, hident, rfl, accepts_of_accepting (.inr ?_)⟩
    rw [parserRun_identifier c (done := .hDone) (by simp [IdentifierThen]) hident.le hlen]
    exact if_pos hident

/-- The data-length word that TCP_DATA_LEN_BYTES asks for, then the block (41_frame_parser.md R105, R106). -/
theorem accepts_after_marker_iff (hc : c.tcpDataLenBytes = 0 ∨ c.tcpDataLenBytes = 4) {p : Parser} (hpk : p.pk = 0#4)
    (hpst : p.pst = if c.tcpDataLenBytes = 4 then .tDlen else .bCodec) :
    Accepts c p rest ↔
      ∃ word block : List Byte, word.length = c.tcpDataLenBytes ∧ rest = word ++ block ∧ IsBlock block := by
  obtain hc | hc := hc
  · have hpst' : p.pst = .bCodec := by simpa [hc] using hpst
    simp [accepts_iff_isBlock hpst', hc, List.length_eq_zero_iff]
  · have hpst' : p.pst = .tDlen := by simpa [hc] using hpst
    rw [accepts_iff_field (n := 4) hpk (by rw [hpst']; rfl) (by rw [hpst']; rfl), hc]
    refine exists₂_congr fun word block => and_congr_right fun hword => and_congr_right fun _ => ?_
    obtain ⟨x, y, z, w, rfl⟩ : ∃ x y z w, word = [x, y, z, w] := by
      match word, hword with
      | [x, y, z, w], _ => exact ⟨x, y, z, w, rfl⟩
    exact accepts_iff_isBlock (parserRun_dataLength_pst c hpst' hpk x y z w)

theorem accepts_data_iff (hc : c.tcpDataLenBytes = 0 ∨ c.tcpDataLenBytes = 4) :
    Accepts c (parserRun c (parserStart .tcp) (be2 0#16)) rest ↔
      ∃ marker word block : List Byte, marker.length = 2 ∧ word.length = c.tcpDataLenBytes ∧ IsBlock block ∧
        rest = marker ++ word ++ block := by
  rw [parserRun_lead_data, accepts_iff_field (n := 2) rfl rfl rfl]
  constructor
  · rintro ⟨marker, ys, hmarker, rfl, h⟩
    obtain ⟨x, y, rfl⟩ := List.length_eq_two.1 hmarker
    rw [parserRun_marker c rfl rfl, accepts_after_marker_iff hc rfl rfl] at h
    obtain ⟨word, block, hword, rfl, hblock⟩ := h
    exact ⟨[x, y], word, block, rfl, hword, hblock, by rw [List.append_assoc]⟩
  · rintro ⟨marker, word, block, hmarker, hword, hblock, rfl⟩
    obtain ⟨x, y, rfl⟩ := List.length_eq_two.1 hmarker
    refine ⟨[x, y], word ++ block, rfl, by rw [List.append_assoc], ?_⟩
    rw [parserRun_marker c rfl rfl, accepts_after_marker_iff hc rfl rfl]
    exact ⟨word, block, hword, rfl, hblock⟩

/-- The leading field decides KIND, and with it which of the two layouts the rest must have. -/
theorem accepts_tcp_kind_iff {k : FrameKind} :
    Accepts c (parserStart .tcp) frame ∧ (parserRun c (parserStart .tcp) frame).kind = k ↔
      ∃ len rest, frame = be2 len ++ rest ∧ Accepts c (parserRun c (parserStart .tcp) (be2 len)) rest ∧
        (if len = 0#16 then FrameKind.data else .handshake) = k := by
  rw [accepts_tcp_iff]
  constructor
  · rintro ⟨⟨len, rest, rfl, h⟩, hkind⟩
    exact ⟨len, rest, rfl, h, parserRun_tcp_kind.symm.trans hkind⟩
  · rintro ⟨len, rest, rfl, h, hkind⟩
    exact ⟨⟨len, rest, rfl, h⟩, parserRun_tcp_kind.trans hkind⟩

theorem accepts_as_handshake_iff :
    Accepts c (parserStart .tcp) frame ∧ (parserRun c (parserStart .tcp) frame).kind = .handshake ↔
      ∃ (len : Half) (ident trailing : List Byte), len ≠ 0#16 ∧ ident.length = len.toNat ∧
        frame = be2 len ++ ident ++ trailing := by
  rw [accepts_tcp_kind_iff]
  constructor
  · rintro ⟨len, rest, rfl, h, hkind⟩
    have hlen : len ≠ 0#16 := by rintro rfl; cases hkind
    obtain ⟨ident, trailing, hident, rfl⟩ := (accepts_handshake_iff hlen).1 h
    exact ⟨len, ident, trailing, hlen, hident, (List.append_assoc ..).symm⟩
  · rintro ⟨len, ident, trailing, hlen, hident, rfl⟩
    exact ⟨len, ident ++ trailing, List.append_assoc .., (accepts_handshake_iff hlen).2 ⟨ident, trailing, hident, rfl⟩,
      if_neg hlen⟩

theorem accepts_as_data_iff (hc : c.tcpDataLenBytes = 0 ∨ c.tcpDataLenBytes = 4) :
    Accepts c (parserStart .tcp) frame ∧ (parserRun c (parserStart .tcp) frame).kind = .data ↔
      ∃ (marker length : List Byte) (codec count : Byte) (body : List Byte), marker.length = 2 ∧
        length.length = c.tcpDataLenBytes ∧ codec ∈ [0x07#8, 0x08#8, 0x8E#8, 0x0C#8, 0x10#8] ∧
          frame = [0x00#8, 0x00#8] ++ marker ++ length ++ [codec, count] ++ body := by
  rw [accepts_tcp_kind_iff]
  constructor
  · rintro ⟨len, rest, rfl, h, hkind⟩
    obtain rfl : len = 0#16 := by
      by_contra hlen
      rw [if_neg hlen] at hkind
      cases hkind
    obtain ⟨marker, word, block, hmarker, hword, ⟨codec, count, body, hknown, rfl⟩, rfl⟩ := (accepts_data_iff hc).1 h
    exact ⟨marker, word, codec, count, body, hmarker, hword, hknown, by simp [be2]⟩
  · rintro ⟨marker, word, codec, count, body, hmarker, hword, hknown, rfl⟩
    exact ⟨0#16, marker ++ word ++ ([codec, count] ++ body), by simp [be2],
      (accepts_data_iff hc).2 ⟨marker, word, _, hmarker, hword, ⟨codec, count, body, hknown, rfl⟩, rfl⟩, rfl⟩

end

/-! ### UDP datagrams, 41_frame_parser.md R117 -/

section
variable {c : Config} {p : Parser} {bytes : List Byte}

/-- The identifier that the length measures, then the block (41_frame_parser.md R109). -/
theorem accepts_after_idLen_iff (hpst : p.pst = .uIdlen) (hpk : p.pk = 0#4) (hidlen : p.idlen = 0#16) (len : Half) :
    Accepts c (parserRun c p (be2 len)) bytes ↔
      ∃ ident block : List Byte, ident.length = len.toNat ∧ bytes = ident ++ block ∧ IsBlock block := by
  rw [parserRun_idLen c hpst hpk hidlen]
  by_cases hlen : len = 0#16
  · subst hlen
    rw [accepts_iff_isBlock (by simp)]
    simp
  · simp only [hlen, if_false]
    rw [accepts_iff_identifier (done := .bCodec) (by simp [IdentifierThen]) hlen]
    refine exists₂_congr fun ident block => and_congr_right fun hident => and_congr_right fun _ => ?_
    refine accepts_iff_isBlock ?_
    rw [parserRun_identifier c (done := .bCodec) (by simp [IdentifierThen]) hident.le hlen]
    exact if_pos hident

/-- The identifier's length, the identifier and the block (41_frame_parser.md R108, R109). -/
theorem accepts_iff_identifier_block (hpst : p.pst = .uIdlen) (hpk : p.pk = 0#4) (hidlen : p.idlen = 0#16) :
    Accepts c p bytes ↔
      ∃ (len : Half) (ident block : List Byte), ident.length = len.toNat ∧ IsBlock block ∧
        bytes = be2 len ++ ident ++ block := by
  rw [accepts_iff_field (n := 2) hpk (by rw [hpst]; rfl) (by rw [hpst]; rfl)]
  constructor
  · rintro ⟨xs, rest, hxs, rfl, h⟩
    obtain ⟨len, rfl⟩ := exists_be2_of_length hxs
    obtain ⟨ident, block, hident, rfl, hblock⟩ := (accepts_after_idLen_iff hpst hpk hidlen len).1 h
    exact ⟨len, ident, block, hident, hblock, (List.append_assoc ..).symm⟩
  · rintro ⟨len, ident, block, hident, hblock, rfl⟩
    exact ⟨be2 len, ident ++ block, rfl, List.append_assoc ..,
      (accepts_after_idLen_iff hpst hpk hidlen len).2 ⟨ident, block, hident, rfl, hblock⟩⟩

/-- The six header bytes, whatever they are, leave the parser at the identifier's length (41_frame_parser.md R107). -/
theorem accepts_after_header_iff {header : List Byte} (hheader : header.length = 6) :
    Accepts c (parserRun c (parserStart .udp) header) bytes ↔
      ∃ (len : Half) (ident block : List Byte), ident.length = len.toNat ∧ IsBlock block ∧
        bytes = be2 len ++ ident ++ block := by
  match header, hheader with
  | [_, _, _, _, _, _], _ =>
    rw [parserRun_udpHeader]
    exact accepts_iff_identifier_block rfl rfl rfl

theorem accepts_udp_iff :
    Accepts c (parserStart .udp) bytes ↔
      ∃ (header : List Byte) (len : Half) (ident : List Byte) (codec count : Byte) (body : List Byte),
        header.length = 6 ∧ ident.length = len.toNat ∧ codec ∈ [0x07#8, 0x08#8, 0x8E#8, 0x0C#8, 0x10#8] ∧
          bytes = header ++ be2 len ++ ident ++ [codec, count] ++ body := by
  rw [accepts_iff_field (n := 6) rfl rfl rfl]
  constructor
  · rintro ⟨header, rest, hheader, rfl, h⟩
    obtain ⟨len, ident, _, hident, ⟨codec, count, body, hknown, rfl⟩, rfl⟩ := (accepts_after_header_iff hheader).1 h
    exact ⟨header, len, ident, codec, count, body, hheader, hident, hknown, by simp⟩
  · rintro ⟨header, len, ident, codec, count, body, hheader, hident, hknown, rfl⟩
    exact ⟨header, be2 len ++ ident ++ ([codec, count] ++ body), hheader, by simp,
      (accepts_after_header_iff hheader).2 ⟨len, ident, _, hident, ⟨codec, count, body, hknown, rfl⟩, rfl⟩⟩

end

/-! ### The obligations -/

/-- Settles O43. -/
theorem tcpParserAcceptsExactlyTheLayouts : Obligations.TcpParserAcceptsExactlyTheLayouts := by
  intro s frame hcfg
  obtain ⟨-, hc⟩ := (config_wellFormed_iff s.cfg).1 hcfg
  obtain ⟨t, hrun, hclosed, hkind⟩ := frame_ends .tcp frame s
  refine ⟨t, hrun, ?_⟩
  rw [hclosed, hkind]
  refine ⟨accepts_as_handshake_iff, accepts_as_data_iff hc, fun haccepts => ?_⟩
  obtain ⟨len, rest, rfl, -⟩ := accepts_tcp_iff.1 haccepts
  rw [parserRun_tcp_kind]
  split_ifs <;> simp

/-- Settles O44. -/
theorem udpParserAcceptsExactlyTheLayout : Obligations.UdpParserAcceptsExactlyTheLayout := by
  intro s frame
  obtain ⟨t, hrun, hclosed, -⟩ := frame_ends .udp frame s
  exact ⟨t, hrun, hclosed.trans accepts_udp_iff⟩

/-- Settles O45. -/
theorem udpDatagramFieldsEndInTheirRegisters : Obligations.UdpDatagramFieldsEndInTheirRegisters := by
  intro s len pktid idlen ptype locid codec count ident body hident hknown
  refine ⟨_, execAll_frameCommands .udp _ s, ?_⟩
  rw [parserRun_udpDatagram s.cfg len pktid idlen ptype locid count body hident hknown,
    parserEnd_of_accepting (.inl rfl)]
  have hboff : (BitVec.ofNat 32 (10 + idlen.toNat)).toNat = 10 + idlen.toNat := by
    have := idlen.isLt
    rw [BitVec.toNat_ofNat]
    omega
  exact ⟨rfl, rfl, rfl, rfl, rfl, rfl, rfl, rfl, rfl, rfl, rfl, hboff, rfl⟩

end Sys2Proof.Machine

/-! The transfer sequencer of 42_transfer.md: the request for a transfer's next chunk (R141, R142), what XFER.CHUNK answers by the
length of the chunk (R143, R144), and a whole transfer whose device sends what is requested. -/

namespace Sys2Proof.Machine

/-! ### The request for the next chunk -/

theorem nextSize_eq {decl woff : Word} (h : woff ≤ decl) :
    nextSize decl woff = BitVec.ofNat 16 (min 2048 (decl.toNat - woff.toNat)) := by
  rw [nextSize, remaining_toNat h, chunkMax]

theorem nextSize_toNat {decl woff : Word} (h : woff ≤ decl) :
    (nextSize decl woff).toNat = min 2048 (decl.toNat - woff.toNat) := by
  rw [nextSize_eq h, BitVec.toNat_ofNat, Nat.mod_eq_of_lt (by omega)]

/-- What XFER.INIT and XFER.CHUNK leave for a slot that still waits for bytes: the slot, and the request for its next chunk
(42_transfer.md R142, R143). -/
def State.requestNext (x : Slot) (s : State) : State :=
  State.requestChunk x.xtid x.xwoff (nextSize x.xdecl x.xwoff) { s.ok with slot := x }

/-- A request replaces the one before it, of which nothing is left. -/
theorem requestNext_requestNext (x y : Slot) (s : State) : (s.requestNext x).requestNext y = s.requestNext y := rfl

section
variable {x : Slot} {s : State}

/-- BLD.IMGREQ takes the transfer id from TID, the sequencer from the slot. -/
theorem exec_bldImgreq_at_request (htid : s.tid = x.xtid) :
    exec .bldImgreq { s with slot := x, off := x.xwoff, size := nextSize x.xdecl x.xwoff } = .next (s.requestNext x) := by
  rw [State.requestNext, ← htid]
  rfl

theorem exec_bldImgreq_requestNext (htid : s.tid = x.xtid) :
    exec .bldImgreq (s.requestNext x) = .next (s.requestNext x) := by
  rw [State.requestNext, ← htid]
  rfl

end

/-! ### One chunk -/

theorem encode_xferChunk (len : Half) : encode (.xferChunk len) = 0x41000000#32 ||| len.setWidth 32 := by
  rw [encode_eq_iff]
  simp only [opField, resField, opndField, BitVec.extractLsb'_or, setWidth_extract_above len 24 8 (by decide),
    setWidth_extract_above len 16 8 (by decide), BitVec.extractLsb'_setWidth_of_le (by decide : 0 + 16 ≤ 32),
    BitVec.extractLsb'_eq_self]
  exact ⟨rfl, rfl, BitVec.zero_or.symm⟩

theorem xwoff_add_len (woff : Word) (len : Half) :
    woff + len.setWidth 32 = BitVec.ofNat 32 (woff.toNat + len.toNat) := by
  apply BitVec.eq_of_toNat_eq
  rw [BitVec.toNat_add, BitVec.toNat_setWidth_of_le (by decide), BitVec.toNat_ofNat]

theorem remaining_lt_len_iff {decl woff : Word} {len : Half} (hle : woff ≤ decl) :
    remaining decl woff < len.setWidth 32 ↔ decl.toNat < woff.toNat + len.toNat := by
  rw [BitVec.lt_def, remaining_toNat hle, BitVec.toNat_setWidth_of_le (by decide)]
  have := BitVec.le_def.1 hle
  omega

/-- An offset that is at most DECL as a number is DECL as a word only if it is DECL as a number. -/
theorem ofNat_eq_word_iff {decl : Word} {n : Nat} (hn : n ≤ decl.toNat) : BitVec.ofNat 32 n = decl ↔ n = decl.toNat := by
  rw [← BitVec.toNat_inj, BitVec.toNat_ofNat, Nat.mod_eq_of_lt (hn.trans_lt decl.isLt)]

/-- There is an active transfer of id TID (42_transfer.md R143). -/
abbrev State.Knows (s : State) : Prop := s.slot.active = true ∧ s.tid = s.slot.xtid

section
variable {s : State} {len : Half}

theorem exec_xferChunk_unknown (hunknown : ¬s.Knows) :
    exec (.xferChunk len) s = .next { s with err := .unknownTransfer } := by
  obtain ⟨-, h⟩ | ⟨hactive, htid, -⟩ := execXferChunk_cases len s
  · exact h
  · exact absurd ⟨hactive, htid⟩ hunknown

variable (hknown : s.Knows)
include hknown

/-- A chunk of a known transfer is refused exactly if it goes beyond XDECL (42_transfer.md R143). -/
theorem exec_xferChunk_known (hle : s.slot.xwoff ≤ s.slot.xdecl) :
    exec (.xferChunk len) s = .next (if s.slot.xdecl.toNat < s.slot.xwoff.toNat + len.toNat then
      { s with err := .capacityExceeded } else chunkAccepted len s) := by
  simp only [← remaining_lt_len_iff hle]
  obtain ⟨hactive, htid⟩ := hknown
  obtain ⟨hunknown, -⟩ | ⟨-, -, ⟨hlong, h⟩ | ⟨hroom, h⟩⟩ := execXferChunk_cases len s
  · simp [hactive, htid] at hunknown
  · rw [if_pos hlong]
    exact h
  · rw [if_neg hroom]
    exact h

theorem exec_xferChunk_exceeded (hle : s.slot.xwoff ≤ s.slot.xdecl)
    (hlong : s.slot.xdecl.toNat < s.slot.xwoff.toNat + len.toNat) :
    exec (.xferChunk len) s = .next { s with err := .capacityExceeded } := by
  rw [exec_xferChunk_known hknown hle, if_pos hlong]

theorem exec_xferChunk_accepted (hroom : s.slot.xwoff.toNat + len.toNat ≤ s.slot.xdecl.toNat) :
    exec (.xferChunk len) s = .next (chunkAccepted len s) := by
  rw [exec_xferChunk_known hknown (BitVec.le_def.2 (by omega)), if_neg (by omega)]

/-- The chunk that reaches XDECL completes the transfer (42_transfer.md R144). -/
theorem exec_xferChunk_completing (hsum : s.slot.xwoff.toNat + len.toNat = s.slot.xdecl.toNat) :
    exec (.xferChunk len) s =
      .next (State.setFrame [] { s.ok with slot := ⟨false, true, s.slot.xtid, s.slot.xdecl, s.slot.xdecl⟩ }) := by
  rw [exec_xferChunk_accepted hknown hsum.le]
  have hreached : s.slot.xwoff + len.setWidth 32 = s.slot.xdecl := by
    rw [xwoff_add_len, ofNat_eq_word_iff hsum.le, hsum]
  obtain ⟨-, hdone⟩ | ⟨hmore, -⟩ := chunkAccepted_cases len s
  · rw [hdone, hreached]
  · exact absurd hreached hmore

/-- A chunk short of XDECL is followed by the next request (42_transfer.md R143). -/
theorem exec_xferChunk_continuing (hsum : s.slot.xwoff.toNat + len.toNat < s.slot.xdecl.toNat) :
    exec (.xferChunk len) s =
      .next (s.requestNext { s.slot with xwoff := BitVec.ofNat 32 (s.slot.xwoff.toNat + len.toNat) }) := by
  rw [exec_xferChunk_accepted hknown hsum.le]
  obtain ⟨hdone, -⟩ | ⟨-, hmore⟩ := chunkAccepted_cases len s
  · rw [xwoff_add_len, ofNat_eq_word_iff hsum.le] at hdone
    omega
  · rw [hmore, xwoff_add_len]
    rfl

end

/-! ### A transfer served as requested -/

/-- The slot of a transfer with `received` of its bytes in, and more to come. -/
def Slot.receiving (tid decl : Word) (received : Nat) : Slot := ⟨true, false, tid, decl, BitVec.ofNat 32 received⟩

/-- The state after XFER.INIT and `k` whole chunks. -/
def State.served (k : Nat) (s : State) : State := s.requestNext (.receiving s.tid s.decl (2048 * k))

theorem exec_xferInit (s : State) : exec .xferInit s = .next (s.served 0) := rfl

theorem served_knows (k : Nat) (s : State) : (s.served k).Knows := ⟨rfl, rfl⟩

section
variable {s : State} {k : Nat}

theorem served_xwoff_toNat (h : 2048 * k ≤ s.decl.toNat) : (s.served k).slot.xwoff.toNat = 2048 * k := by
  change (BitVec.ofNat 32 (2048 * k)).toNat = 2048 * k
  rw [BitVec.toNat_ofNat, Nat.mod_eq_of_lt (h.trans_lt s.decl.isLt)]

theorem served_size_toNat (h : 2048 * k ≤ s.decl.toNat) :
    (s.served k).size.toNat = min 2048 (s.decl.toNat - 2048 * k) := by
  have hle : (s.served k).slot.xwoff ≤ s.decl := by
    rw [BitVec.le_def, served_xwoff_toNat h]
    exact h
  change (nextSize s.decl (s.served k).slot.xwoff).toNat = _
  rw [nextSize_toNat hle, served_xwoff_toNat h]

/-- A whole chunk that is not the last brings the next request. -/
theorem exec_xferChunk_served (h : 2048 * (k + 1) < s.decl.toNat) :
    exec (.xferChunk (s.served k).size) (s.served k) = .next (s.served (k + 1)) := by
  have hsum : (s.served k).slot.xwoff.toNat + (s.served k).size.toNat = 2048 * (k + 1) := by
    rw [served_xwoff_toNat (by omega), served_size_toNat (by omega)]
    omega
  rw [exec_xferChunk_continuing (served_knows k s) (hsum.trans_lt h), hsum]
  exact congrArg Host.Outcome.next (requestNext_requestNext ..)

/-- The chunk that holds the last byte completes the transfer. -/
theorem exec_xferChunk_served_last (hmore : 2048 * k < s.decl.toNat) (hlast : s.decl.toNat ≤ 2048 * (k + 1)) :
    exec (.xferChunk (s.served k).size) (s.served k) =
      .next (State.setFrame [] { (s.served k).ok with slot := ⟨false, true, s.tid, s.decl, s.decl⟩ }) := by
  have hsum : (s.served k).slot.xwoff.toNat + (s.served k).size.toNat = s.decl.toNat := by
    rw [served_xwoff_toNat hmore.le, served_size_toNat hmore.le]
    omega
  exact exec_xferChunk_completing (served_knows k s) hsum

theorem serveRequests_succ {t : State} (h : exec (.xferChunk s.size) s = .next t) (k : Nat) :
    serveRequests (k + 1) s = serveRequests k t := by
  rw [serveRequests, h]

/-- The last of `k + 1` chunks is the one after the first `k`. -/
theorem serveRequests_succ_last {t u : State} (h : serveRequests k s = .next t)
    (hlast : exec (.xferChunk t.size) t = .next u) : serveRequests (k + 1) s = .next u := by
  induction k generalizing s with
  | zero =>
    cases h
    exact serveRequests_succ hlast 0
  | succ k ih =>
    obtain ⟨r, hfirst, -⟩ := exec_completes (.xferChunk s.size) s
    rw [serveRequests_succ hfirst] at h ⊢
    exact ih h

theorem serveRequests_served (h : 2048 * k < s.decl.toNat) : serveRequests k (s.served 0) = .next (s.served k) := by
  induction k with
  | zero => rfl
  | succ k ih => exact serveRequests_succ_last (ih (by omega)) (exec_xferChunk_served h)

end

/-! ### The obligations -/

/-- Settles O48. -/
theorem xferInitStartsTheTransfer : Obligations.XferInitStartsTheTransfer := by
  refine ⟨by decide, fun s => ⟨_, exec_xferInit s, ?_⟩⟩
  have hsize : nextSize s.decl 0#32 = BitVec.ofNat 16 (min 2048 s.decl.toNat) :=
    nextSize_eq (BitVec.le_def.2 (Nat.zero_le _))
  rw [← hsize]
  exact exec_bldImgreq_at_request (x := .receiving s.tid s.decl 0) rfl

/-- Settles O49, clause by clause. -/
theorem xferChunkCountsTheChunk : Obligations.XferChunkCountsTheChunk := by
  intro s len hle known woff
  refine ⟨encode_xferChunk len, exec_xferChunk_unknown, fun hknown => exec_xferChunk_exceeded hknown hle,
    fun hknown hsum => ⟨_, exec_xferChunk_completing hknown hsum, rfl, txOfFrame_toList [] (by decide)⟩,
    fun hknown hsum => ⟨_, exec_xferChunk_continuing hknown hsum, ?_⟩⟩
  have hwoff : (BitVec.ofNat 32 woff).toNat = woff := by
    rw [BitVec.toNat_ofNat, Nat.mod_eq_of_lt (hsum.trans s.slot.xdecl.isLt)]
  have hsize : nextSize s.slot.xdecl (BitVec.ofNat 32 woff) = BitVec.ofNat 16 (min 2048 (s.slot.xdecl.toNat - woff)) := by
    rw [nextSize_eq (by rw [BitVec.le_def, hwoff]; exact hsum.le), hwoff]
  obtain ⟨-, htid⟩ := hknown
  rw [← hsize]
  exact exec_bldImgreq_at_request (x := { s.slot with xwoff := BitVec.ofNat 32 woff }) htid

/-- Settles O50: after `k` chunks the state is `s.served k`, and the chunk that holds the last byte is the next one. -/
theorem transferCompletesInCeilingManyChunks : Obligations.TransferCompletesInCeilingManyChunks := by
  intro s hdecl chunks
  have hpos : 0 < s.decl.toNat := Nat.pos_of_ne_zero fun h => hdecl (BitVec.eq_of_toNat_eq h)
  refine ⟨_, exec_xferInit s, fun k hk => ?_, ?_⟩
  · have hmore : 2048 * k < s.decl.toNat := by omega
    exact ⟨_, serveRequests_served hmore, rfl, rfl, served_xwoff_toNat hmore.le, rfl, rfl, served_size_toNat hmore.le,
      rfl, rfl, exec_bldImgreq_requestNext rfl⟩
  · obtain ⟨k, hk⟩ : ∃ k, chunks = k + 1 := Nat.exists_eq_succ_of_ne_zero (by omega)
    have hmore : 2048 * k < s.decl.toNat := by omega
    rw [hk]
    exact ⟨_, serveRequests_succ_last (serveRequests_served hmore) (exec_xferChunk_served_last hmore (by omega)), rfl, rfl,
      rfl, rfl, rfl, rfl, rfl⟩

end Sys2Proof.Machine

/-! The CRC engine of 43_crc16.md: its two directions as mirror images (R160), the reflected direction's table-driven form (R165)
and the residue of a sequence with its CRC (R167), and what the commands leave in CRCACC and CRCVAL (R162–R164). -/

namespace Sys2Proof.Machine

open Function (Semiconj Semiconj₂)

/-! ### One step as eight shifts -/

theorem repeatTimes_eq_iterate (f : Half → Half) (n : Nat) (x : Half) : repeatTimes f n x = f^[n] x := by
  induction n generalizing x with
  | zero => rfl
  | succ n ih => exact ih (f x)

theorem crcStep_of_refIn {c : Config} (h : c.crcRefIn = true) (acc : Half) (b : Byte) :
    crcStep c acc b = (crcShiftRight c)^[8] (acc ^^^ b.setWidth 16) := by
  rw [crcStep, if_pos h, repeatTimes_eq_iterate]

theorem crcStep_of_not_refIn {c : Config} (h : c.crcRefIn = false) (acc : Half) (b : Byte) :
    crcStep c acc b = (crcShiftLeft c)^[8] (acc ^^^ (b.setWidth 16 <<< 8)) := by
  rw [crcStep, if_neg (by simp [h]), repeatTimes_eq_iterate]

/-! ### Mirror images -/

theorem reflect16_getLsbD (x : Half) {i : Nat} (hi : i < 16) : (reflect16 x).getLsbD i = x.getLsbD (15 - i) := by
  rw [reflect16, BitVec.getLsbD_reverse, BitVec.getMsbD_eq_getLsbD, decide_eq_true hi, Bool.true_and]

@[simp] theorem reflect16_reflect16 (x : Half) : reflect16 (reflect16 x) = x := BitVec.reverse_reverse_eq

theorem reflect16_xor (x y : Half) : reflect16 (x ^^^ y) = reflect16 x ^^^ reflect16 y := by
  ext i hi
  simp [reflect16, BitVec.getElem_reverse]

theorem reflect16_shiftLeft (x : Half) (n : Nat) : reflect16 (x <<< n) = reflect16 x >>> n := by
  ext i hi
  simp [reflect16, BitVec.getElem_reverse, BitVec.getLsbD_reverse, Nat.add_comm]

/-- The upper byte's mirror image is the lower byte. -/
theorem reflect16_upper_byte (b : Byte) : reflect16 (b.setWidth 16 <<< 8) = b.reverse.setWidth 16 := by
  ext i hi
  simp [reflect16, BitVec.getElem_reverse, BitVec.getLsbD_reverse]

/-- One right shift of a reflected value is the reflection of one left shift. -/
theorem crcShift_mirror {c d : Config} (hpoly : c.crcPoly = d.crcPoly) :
    Semiconj reflect16 (crcShiftLeft c) (crcShiftRight d) := by
  intro x
  rw [crcShiftLeft, crcShiftRight, reflect16_getLsbD x (by decide : 0 < 16), ← hpoly]
  split
  · rw [reflect16_xor, reflect16_shiftLeft]
  · rw [reflect16_shiftLeft]

/-! ### The reflected step and XOR -/

theorem crcShiftRight_eq (c : Config) (x : Half) :
    crcShiftRight c x = (x >>> 1) ^^^ (if x.getLsbD 0 then reflect16 c.crcPoly else 0#16) := by
  rw [crcShiftRight]
  split
  · rfl
  · exact BitVec.xor_zero.symm

theorem ite_xor_eq_xor_ite (p : Half) (a b : Bool) :
    (if a ^^ b then p else 0#16) = (if a then p else 0#16) ^^^ (if b then p else 0#16) := by
  cases a <;> cases b <;> simp

theorem crcShiftRight_xor (c : Config) : Semiconj₂ (crcShiftRight c) (· ^^^ ·) (· ^^^ ·) := by
  intro x y
  simp only [crcShiftRight_eq, BitVec.getLsbD_xor, BitVec.ushiftRight_xor_distrib, ite_xor_eq_xor_ite]
  ac_rfl

/-- As long as only zeros are shifted out, the polynomial does not come in. -/
theorem crcShiftRight_iterate_of_zeros (c : Config) (n : Nat) {x : Half} (h : ∀ i < n, x.getLsbD i = false) :
    (crcShiftRight c)^[n] x = x >>> n := by
  induction n generalizing x with
  | zero => rfl
  | succ n ih =>
    have hfirst : crcShiftRight c x = x >>> 1 := if_neg (by rw [h 0 n.succ_pos]; decide)
    have hrest : ∀ i < n, (x >>> 1).getLsbD i = false := fun i hi => by
      rw [BitVec.getLsbD_ushiftRight, h (1 + i) (by omega)]
    rw [Function.iterate_succ_apply, hfirst, ih hrest, ← BitVec.shiftRight_add, Nat.add_comm]

theorem ushiftRight_xor_byte (x : Half) (b : Byte) : (x ^^^ b.setWidth 16) >>> 8 = x >>> 8 := by
  have hbyte : b.setWidth 16 >>> 8 = 0#16 := by
    ext i hi
    simp
  rw [BitVec.ushiftRight_xor_distrib, hbyte, BitVec.xor_zero]

/-- With the lower byte cleared, eight shifts only move the upper byte down. -/
theorem crcShiftRight_iterate_lower_cleared (c : Config) (x : Half) :
    (crcShiftRight c)^[8] (x ^^^ (x.extractLsb' 0 8).setWidth 16) = x >>> 8 := by
  have hcleared : ∀ i < 8, (x ^^^ (x.extractLsb' 0 8).setWidth 16).getLsbD i = false := fun i hi => by
    simp [hi, show i < 16 by omega]
  rw [crcShiftRight_iterate_of_zeros c 8 hcleared, ushiftRight_xor_byte]

/-- The table-driven form of R165, for every polynomial: the upper byte moves down, and the lower byte becomes its entry. -/
theorem crcStep_eq_table {c : Config} (h : c.crcRefIn = true) (acc : Half) (b : Byte) :
    crcStep c acc b = (acc >>> 8) ^^^ crcStep c 0#16 ((acc ^^^ b.setWidth 16).extractLsb' 0 8) := by
  set x := acc ^^^ b.setWidth 16
  set lower := (x.extractLsb' 0 8).setWidth 16
  have hsplit : x = (x ^^^ lower) ^^^ lower := by rw [BitVec.xor_assoc, BitVec.xor_self, BitVec.xor_zero]
  calc crcStep c acc b = (crcShiftRight c)^[8] x := crcStep_of_refIn h acc b
    _ = (crcShiftRight c)^[8] ((x ^^^ lower) ^^^ lower) := congrArg _ hsplit
    _ = (crcShiftRight c)^[8] (x ^^^ lower) ^^^ (crcShiftRight c)^[8] lower := (crcShiftRight_xor c).iterate 8 _ _
    _ = (acc >>> 8) ^^^ crcStep c 0#16 (x.extractLsb' 0 8) := by
      rw [crcShiftRight_iterate_lower_cleared, ushiftRight_xor_byte, crcStep_of_refIn h, BitVec.zero_xor]

/-- A step on the accumulator's own lower byte shifts that byte out. -/
theorem crcStep_lower_byte {c : Config} (h : c.crcRefIn = true) (acc : Half) :
    crcStep c acc (acc.extractLsb' 0 8) = acc >>> 8 := by
  rw [crcStep_of_refIn h, crcShiftRight_iterate_lower_cleared]

/-- The accumulator's own two bytes, the lower one first, shift all of it out. -/
theorem crcRun_own_bytes {c : Config} (h : c.crcRefIn = true) (acc : Half) :
    crcRun c acc [acc.extractLsb' 0 8, acc.extractLsb' 8 8] = 0#16 := by
  have hupper : acc.extractLsb' 8 8 = (acc >>> 8).extractLsb' 0 8 := by
    ext i hi
    simp
  rw [crcRun_cons, crcRun_cons, crcRun_nil, crcStep_lower_byte h, hupper, crcStep_lower_byte h, ← BitVec.shiftRight_add,
    BitVec.ushiftRight_eq_zero (by decide)]

/-! ### The CRC under the default parameters -/

section

variable {c : Config} (h : c.CrcDefaults)
include h

theorem crcStep_of_crcDefaults : crcStep c = crcStep Config.default := by
  obtain ⟨hpoly, -, hrefIn, -, -⟩ := h
  have hshift : crcShiftRight c = crcShiftRight Config.default := by
    funext x
    rw [crcShiftRight_eq, crcShiftRight_eq, hpoly]
    rfl
  funext acc b
  rw [crcStep_of_refIn hrefIn, hshift, crcStep_of_refIn rfl]

theorem crcRun_of_crcDefaults : crcRun c = crcRun Config.default := by
  funext acc bytes
  rw [crcRun, crcRun, crcStep_of_crcDefaults h]

/-- The start value is 0, and the accumulator is the CRC itself. -/
theorem crc16_of_crcDefaults (bytes : List Byte) : crc16 c bytes = crcRun c 0#16 bytes := by
  obtain ⟨-, hinit, hrefIn, hrefOut, hxorOut⟩ := h
  have hstart : acc0 c = 0#16 := by
    rw [acc0, if_pos hrefIn, hinit]
    decide
  rw [crc16, hstart, crcFinal_eq, if_pos (hrefIn.trans hrefOut.symm), hxorOut, BitVec.xor_zero]

end

/-! ### The commands -/

/-- The word of a command whose layout is one byte: the command's word for 0, and the byte in the lowest bits. -/
theorem encode_of_byteOperand {i : Instr} {b : Byte} {w : Word} (hop : i.opcode ++ 0#8 ++ 0#16 = w)
    (h : i.operand = 0#8 ++ b) : encode i = w ||| b.setWidth 32 := by
  have hbyte : b.setWidth 32 = 0#8 ++ 0#8 ++ (0#8 ++ b) := by
    ext i hi
    grind
  rw [encode, h, ← hop, hbyte, BitVec.or_append, BitVec.or_append, BitVec.or_zero, BitVec.or_zero, BitVec.zero_or]

theorem encode_crcByte (b : Byte) : encode (.crcByte b) = 0x11000000#32 ||| b.setWidth 32 :=
  encode_of_byteOperand (i := .crcByte b) (by rw [Instr.opcode]; decide) rfl

theorem exec_crcInit (s : State) : exec .crcInit s = .next { s with err := .ok, acc := acc0 s.cfg } := rfl

theorem exec_crcByte (b : Byte) (s : State) :
    exec (.crcByte b) s = .next { s with err := .ok, acc := crcStep s.cfg s.acc b } := rfl

/-- After a command that has succeeded, CRC.BYTE commands change the accumulator alone. -/
theorem execAll_crcBytes (bytes : List Byte) (s : State) :
    execAll (bytes.map .crcByte) s.ok = .next { s.ok with acc := crcRun s.cfg s.acc bytes } := by
  induction bytes generalizing s with
  | nil => rfl
  | cons b bytes ih => exact ih { s with acc := crcStep s.cfg s.acc b }

theorem execAll_crcInit_bytes (bytes : List Byte) (s : State) :
    execAll (.crcInit :: bytes.map .crcByte) s =
      .next { s with err := .ok, acc := crcRun s.cfg (acc0 s.cfg) bytes } :=
  execAll_crcBytes bytes { s with acc := acc0 s.cfg }

/-! ### The obligations -/

/-- Settles O23. -/
theorem crcInitLoadsTheStartValue : Obligations.CrcInitLoadsTheStartValue := ⟨by decide, exec_crcInit⟩

/-- Settles O24. -/
theorem crcByteStepsTheAccumulator : Obligations.CrcByteStepsTheAccumulator := by
  refine ⟨fun x i hi => reflect16_getLsbD x hi, fun b s => ⟨encode_crcByte b, fun h => ?_, fun h => ?_⟩⟩
  · rw [exec_crcByte, crcStep_of_refIn h]
    rfl
  · rw [exec_crcByte, crcStep_of_not_refIn h]
    rfl

/-- Settles O25: the table-driven form holds for every polynomial, and the entries are those of the default one. -/
theorem crcStepEqualsTheTableForm : Obligations.CrcStepEqualsTheTableForm := by
  intro c h table
  have ⟨_, _, hrefIn, _, _⟩ := h
  refine ⟨crcStep_eq_table hrefIn, ?_⟩
  simp only [table, crcStep_of_crcDefaults h]
  decide +kernel

/-- Settles O26: the CRC of a sequence is the accumulator it leaves, which its own two bytes shift out. Most significant byte
first, the sequence `[0x01]` with its CRC 0xC0C1 does not give 0. -/
theorem crcResidueIsZero : Obligations.CrcResidueIsZero := by
  intro c h
  have ⟨_, _, hrefIn, _, _⟩ := h
  simp only [crc16_of_crcDefaults h]
  refine ⟨fun bytes => ?_, [0x01#8], ?_⟩
  · rw [crcRun_append, crcRun_own_bytes hrefIn]
  · have hcrc : crcRun Config.default 0#16 [0x01#8] = 0xC0C1#16 := by decide +kernel
    have hswapped : crcRun Config.default 0xC0C1#16 [0xC0#8, 0xC1#8] = 0x50C0#16 := by decide +kernel
    rw [crcRun_append, crcRun_of_crcDefaults h, hcrc]
    exact hswapped.trans_ne (by decide)

/-- Settles O27: the shifts mirror each other one by one, and the byte enters at mirrored ends. -/
theorem reflectedEngineMirrorsTheUnreflected : Obligations.ReflectedEngineMirrorsTheUnreflected := by
  intro c acc b
  have hshifts : Semiconj reflect16 (crcShiftLeft { c with crcRefIn := false })^[8]
      (crcShiftRight { c with crcRefIn := true })^[8] := (crcShift_mirror rfl).iterate_right 8
  rw [crcStep_of_refIn rfl, crcStep_of_not_refIn rfl, hshifts, reflect16_xor, reflect16_reflect16, reflect16_upper_byte,
    BitVec.reverse_reverse_eq]

/-- Settles O28. -/
theorem crcCommandsComputeTheSequenceCrc : Obligations.CrcCommandsComputeTheSequenceCrc :=
  fun bytes s => ⟨_, execAll_crcInit_bytes bytes s, rfl, rfl⟩

end Sys2Proof.Machine

/-! The outbound frame builder of 44_frame_builder.md: what a build leaves (R180), the acknowledgments byte by byte (R181–R183), and
the image chunk request with its CRC region (R184–R188). -/

namespace Sys2Proof.Machine

open BitVec (extractLsb'_eq_self extractLsb'_setWidth_of_le)

/-! ### What a build leaves -/

/-- A command that succeeds and builds a frame leaves the frame, zeros beyond it and its length, and changes nothing else (R180). -/
theorem exec_build_leaves {i : Instr} {s : State} {f : List Byte} (hexec : exec i s = .next (s.ok.setFrame f))
    (hlen : f.length ≤ 32) :
    ∃ t, exec i s = .next t ∧ t = { s with err := .ok, txLen := BitVec.ofNat 6 f.length, tx := t.tx } ∧
      t.tx.toList = f ++ List.replicate (32 - f.length) 0x00#8 :=
  ⟨_, hexec, rfl, txOfFrame_toList f hlen⟩

/-! ### Acknowledgments -/

/-- The word of a command whose layout is two bytes: the command's word for 0, and the two bytes above one another. -/
theorem encode_of_twoByteOperand {i : Instr} {x y : Byte} {w : Word} (hop : i.opcode ++ 0#8 ++ 0#16 = w)
    (h : i.operand = x ++ y) : encode i = w ||| (x.setWidth 32 <<< 8) ||| y.setWidth 32 := by
  have hbytes : x.setWidth 32 <<< 8 ||| y.setWidth 32 = 0#8 ++ 0#8 ++ (x ++ y) := by
    ext j hj
    grind
  rw [encode, h, ← hop, BitVec.or_assoc, hbytes, BitVec.or_append, BitVec.or_append, BitVec.or_zero, BitVec.or_zero,
    BitVec.zero_or]

theorem idackFrame_eq (a : Bool) : idackFrame a = [if a then 0x01#8 else 0x00#8] := by cases a <;> rfl

/-- The count's three upper bytes are 0 (R182). -/
theorem tcpackFrame_eq (n : Byte) : tcpackFrame n = [0x00#8, 0x00#8, 0x00#8, n] := by
  rw [tcpackFrame, be4, setWidth_extract_above n 24 8 (by decide), setWidth_extract_above n 16 8 (by decide),
    setWidth_extract_above n 8 8 (by decide), extractLsb'_setWidth_of_le (by decide), extractLsb'_eq_self]

theorem udpackFrame_eq (loc n : Byte) : udpackFrame loc n = [0x00#8, 0x05#8, 0x00#8, 0x00#8, 0x01#8, loc, n] := rfl

theorem exec_bldIdack (a : Bool) (s : State) :
    exec (.bldIdack a) s = .next (s.ok.setFrame [if a then 0x01#8 else 0x00#8]) := by
  rw [← idackFrame_eq]; rfl

theorem exec_bldTcpack (n : Byte) (s : State) :
    exec (.bldTcpack n) s = .next (s.ok.setFrame [0x00#8, 0x00#8, 0x00#8, n]) := by
  rw [← tcpackFrame_eq]; rfl

theorem exec_bldUdpack (loc n : Byte) (s : State) :
    exec (.bldUdpack loc n) s = .next (s.ok.setFrame [0x00#8, 0x05#8, 0x00#8, 0x00#8, 0x01#8, loc, n]) := by
  rw [← udpackFrame_eq]; rfl

/-! ### The image chunk request -/

/-- Bytes 8 to 25 of the image request, the command payload region of R185. -/
def imgreqPayload (tid off : Word) (size : Half) : List Byte :=
  [0x0C#8, 0x01#8, 0x0D#8, 0x00#8, 0x00#8, 0x00#8, 0x0B#8, 0x02#8] ++ be4 tid ++ be4 off ++ be2 size

/-- The bytes the CRC covers: the payload, and the node byte after it where CRC_REGION_LAST is 26 (R185). -/
def imgreqRegion (c : Config) (tid off : Word) (size : Half) : List Byte :=
  imgreqPayload tid off size ++ if c.crcRegionLast = 26 then [0x01#8] else []

section
variable (c : Config) (tid off : Word) (size : Half)

theorem imgreqBody_eq :
    imgreqBody tid off size =
      [0x00#8, 0x00#8, 0x00#8, 0x00#8, 0x00#8, 0x00#8, 0x00#8, 0x13#8] ++ imgreqPayload tid off size ++
        [0x01#8, 0x00#8, 0x00#8] := rfl

theorem crcRegion_imgreqBody (h : c.crcRegionLast = 25 ∨ c.crcRegionLast = 26) :
    crcRegion c (imgreqBody tid off size) = imgreqRegion c tid off size := by
  rw [crcRegion, imgreqRegion]
  obtain h | h := h
  · rw [h]; rfl
  · rw [h]; rfl

theorem imgreqAcc_eq (h : c.crcRegionLast = 25 ∨ c.crcRegionLast = 26) :
    imgreqAcc c tid off size = crcRun c (acc0 c) (imgreqRegion c tid off size) := by
  rw [imgreqAcc, crcRegion_imgreqBody c tid off size h]

/-- The whole request: the header, the payload, the node byte and two zeros, and the CRC of the region (R184, R188). -/
theorem imgreqFrame_eq (h : c.crcRegionLast = 25 ∨ c.crcRegionLast = 26) :
    imgreqFrame c tid off size =
      [0x00#8, 0x00#8, 0x00#8, 0x00#8, 0x00#8, 0x00#8, 0x00#8, 0x13#8] ++ imgreqPayload tid off size ++
        [0x01#8, 0x00#8, 0x00#8] ++ be2 (crc16 c (imgreqRegion c tid off size)) := by
  rw [imgreqFrame, imgreqBody_eq, imgreqAcc_eq c tid off size h, crc16]

/-- TXBUF with the request in it: the CRC's two bytes are the last of the frame, and one byte of 0 is beyond it. -/
theorem txOfFrame_imgreqFrame_toList (h : c.crcRegionLast = 25 ∨ c.crcRegionLast = 26) :
    (txOfFrame (imgreqFrame c tid off size)).toList =
      [0x00#8, 0x00#8, 0x00#8, 0x00#8, 0x00#8, 0x00#8, 0x00#8, 0x13#8] ++ imgreqPayload tid off size ++
        ([0x01#8, 0x00#8, 0x00#8] ++ be2 (crc16 c (imgreqRegion c tid off size)) ++ [0x00#8]) := by
  rw [txOfFrame_toList _ (by simp), imgreqFrame_eq c tid off size h]
  simp only [List.append_assoc]
  rfl

end

/-- All that BLD.IMGREQ changes: STATUS.ERR, the frame with its length, and the accumulator of the region (R186, R187). -/
theorem exec_bldImgreq {s : State} (h : s.cfg.crcRegionLast = 25 ∨ s.cfg.crcRegionLast = 26) :
    exec .bldImgreq s = .next { s with
      err := .ok
      txLen := 31#6
      tx := txOfFrame (imgreqFrame s.cfg s.tid s.off s.size)
      acc := crcRun s.cfg (acc0 s.cfg) (imgreqRegion s.cfg s.tid s.off s.size) } := by
  rw [← imgreqAcc_eq s.cfg s.tid s.off s.size h]
  rfl

/-! ### The obligations -/

/-- Settles O46. -/
theorem acknowledgmentsAreByteExact : Obligations.AcknowledgmentsAreByteExact := by
  refine fun s => ⟨fun a => ⟨?_, ?_⟩, fun n => ⟨?_, ?_⟩, fun loc n => ⟨?_, ?_⟩⟩
  · cases a <;> decide
  · exact exec_build_leaves (exec_bldIdack a s) (by simp)
  · exact encode_of_byteOperand (i := .bldTcpack n) (by rw [Instr.opcode]; decide) rfl
  · exact exec_build_leaves (exec_bldTcpack n s) (by simp)
  · exact encode_of_twoByteOperand (i := .bldUdpack loc n) (by rw [Instr.opcode]; decide) rfl
  · exact exec_build_leaves (exec_bldUdpack loc n s) (by simp)

/-- Settles O47: R7 leaves two CRC regions, and the frame and the accumulator are those of the region. -/
theorem imageRequestIsByteExact : Obligations.ImageRequestIsByteExact := by
  refine ⟨by decide, fun s hcfg => ?_⟩
  obtain ⟨hregion, -⟩ := (config_wellFormed_iff s.cfg).1 hcfg
  exact ⟨_, exec_bldImgreq hregion, rfl, txOfFrame_imgreqFrame_toList _ _ _ _ hregion⟩

end Sys2Proof.Machine

/-! The validity checker of 45_validity.md: the correction condition (R202), the emit condition (R203) on either validity (R205,
R206), and VAL.CHECK (R204). -/

namespace Sys2Proof.Machine

section
variable {vin : Word} (vcfg : Word)

/-! ### The correction condition, 45_validity.md R202 -/

theorem gpsSleeps_iff : gpsSleeps vin vcfg = true ↔ vinGpsPresent vin = true ∧ vinGpsStatus vin = vcfgGpsSleep vcfg := by
  rw [gpsSleeps, Bool.and_eq_true, beq_iff_eq]

theorem modeSleeps_iff :
    modeSleeps vin vcfg = true ↔
      vinSleepPresent vin = true ∧ (vinSleepMode vin = vcfgSleepA vcfg ∨ vinSleepMode vin = vcfgSleepB vcfg) := by
  rw [modeSleeps, Bool.and_eq_true, Bool.or_eq_true, beq_iff_eq, beq_iff_eq]

theorem corrected_iff :
    corrected vin vcfg = true ↔
      vinValid vin = false ∧ vinSats vin = 0#8 ∧
        ((vinGpsPresent vin = true ∧ vinGpsStatus vin = vcfgGpsSleep vcfg) ∨
          (vinSleepPresent vin = true ∧ (vinSleepMode vin = vcfgSleepA vcfg ∨ vinSleepMode vin = vcfgSleepB vcfg))) := by
  rw [corrected, Bool.and_eq_true, Bool.and_eq_true, Bool.not_eq_true', beq_iff_eq, Bool.or_eq_true, gpsSleeps_iff,
    modeSleeps_iff, and_assoc]

/-! ### The emit condition, 45_validity.md R203 -/

theorem carriesAttributes_iff :
    carriesAttributes vin = true ↔ vinHasAttr vin = true ∨ vinGpsPresent vin = true ∨ vinSleepPresent vin = true := by
  rw [carriesAttributes, Bool.or_eq_true, Bool.or_eq_true, or_assoc]

theorem emits_iff :
    emits vin = true ↔
      vinValid vin = true ∨ vinHasAttr vin = true ∨ vinGpsPresent vin = true ∨ vinSleepPresent vin = true := by
  rw [emits, Bool.or_eq_true, carriesAttributes_iff]

/-- Why the order of the two rules does not matter (R205): what corrects a record is an attribute it carries. -/
theorem carriesAttributes_of_corrected (h : corrected vin vcfg = true) : carriesAttributes vin = true := by
  obtain ⟨-, -, ⟨hgps, -⟩ | ⟨hsleep, -⟩⟩ := (corrected_iff vcfg).1 h
  · exact carriesAttributes_iff.2 (.inr (.inl hgps))
  · exact carriesAttributes_iff.2 (.inr (.inr hsleep))

/-! ### The verdict, 45_validity.md R204 -/

theorem verdictOf_valid_iff : (verdictOf vin vcfg).valid = true ↔ vinValid vin = true ∨ corrected vin vcfg = true := by
  rw [verdictOf, Bool.or_eq_true]

/-- R205: the emit condition with the corrected validity in the place of VIN.VALID. -/
theorem verdictOf_emit_iff_valid :
    (verdictOf vin vcfg).emit = true ↔ (verdictOf vin vcfg).valid = true ∨ carriesAttributes vin = true := by
  calc emits vin = true
    _ ↔ vinValid vin = true ∨ carriesAttributes vin = true := by rw [emits, Bool.or_eq_true]
    _ ↔ vinValid vin = true ∨ corrected vin vcfg = true ∨ carriesAttributes vin = true := by
      rw [or_iff_right_of_imp (carriesAttributes_of_corrected vcfg)]
    _ ↔ (verdictOf vin vcfg).valid = true ∨ carriesAttributes vin = true := by rw [verdictOf_valid_iff, or_assoc]

end

/-- All that VAL.CHECK changes: STATUS.ERR and VOUT. -/
theorem exec_valCheck (s : State) :
    exec .valCheck s = .next { s with err := .ok, vout := verdictOf s.vin s.vcfg } := rfl

/-! ### The obligations -/

/-- Settles O51. -/
theorem valCheckFollowsTheFormulas : Obligations.ValCheckFollowsTheFormulas := by
  refine ⟨by decide, fun s => ⟨_, exec_valCheck s, rfl, corrected_iff s.vcfg, ?_, emits_iff⟩⟩
  exact (verdictOf_valid_iff s.vcfg).trans (or_congr_right (corrected_iff s.vcfg))

/-- Settles O52: the first part is R205; for the second, R206, VIN.VALID in the emit condition is SATS ≠ 0. -/
theorem emitIsTheSameOnCorrectedValidity : Obligations.EmitIsTheSameOnCorrectedValidity := by
  intro s t h
  obtain rfl := Host.Outcome.next.inj ((exec_valCheck s).symm.trans h)
  constructor
  · exact (verdictOf_emit_iff_valid s.vcfg).trans (or_congr_right carriesAttributes_iff)
  · intro hstandard
    exact emits_iff.trans (or_congr_left hstandard)

end Sys2Proof.Machine

/-! The control commands of 46_system.md: SRST's reset (R221), and NOP with the illegal word beside its encoding (R220). -/

namespace Sys2Proof.Machine

/-- All that NOP changes: STATUS.ERR. -/
theorem exec_nop (s : State) : exec .nop s = .next { s with err := .ok } := rfl

/-- SRST is the reset that the platform's own reset performs (70_reset_and_hazards.md R260). -/
theorem exec_srst (s : State) : exec .srst s = .next s.resetRegisters := rfl

/-- What the reset leaves of a state: its parameters and the host's side of the bus. -/
theorem resetRegisters_eq_powerOn (s : State) :
    s.resetRegisters = { State.powerOn s.cfg with pending := s.pending, answers := s.answers } := rfl

/-- A word with NOP's OP whose OPND is not 0 matches no row of the opcode table. -/
theorem no_match_of_nop_operand {w : Word} (hop : opField w = 0x00#8) (hopnd : opndField w ≠ 0#16) :
    ∀ r ∈ opcodeTable, w &&& r.mask ≠ r.pattern :=
  no_match_iff_illegal.2 (.inr (.inr (.inl ⟨by rw [hop]; decide, hopnd⟩)))

/-! ### The obligations -/

/-- Settles O20. -/
theorem softResetLeavesThePowerOnState : Obligations.SoftResetLeavesThePowerOnState := by
  refine ⟨by decide, fun s => ?_⟩
  rw [exec_srst, resetRegisters_eq_powerOn]

/-- Settles O22: 0x00000001 is NOP's OP with an operand NOP does not have. -/
theorem nopClearsStatusOnly : Obligations.NopClearsStatusOnly := by
  refine ⟨by decide, fun s => ⟨exec_nop s, ?_⟩⟩
  have hopnd : opndField 0x00000001#32 ≠ 0#16 := by decide
  exact performWrite_cmd_of_no_match (no_match_of_nop_operand rfl hopnd) s

end Sys2Proof.Machine

/-! The platform's reset (70_reset_and_hazards.md R260), the one event of the queue that is no access of the host. -/

namespace Sys2Proof.Machine

/-- The platform's reset sets every register with storage to its reset value; the host's side of the bus stays. -/
theorem perform_platformReset (s : State) : perform .platformReset s = .next s.resetRegisters := rfl

/-! ### The obligation -/

/-- Settles O21: the event is performed on the state without it, where SRST's own reset is taken. -/
theorem platformResetEqualsSoftReset : Obligations.PlatformResetEqualsSoftReset := by
  intro s rest hcfg hpending
  calc step s
    _ = perform .platformReset { s with pending := rest } := step_of_pending hcfg hpending
    _ = .next (State.resetRegisters { s with pending := rest }) := perform_platformReset _
    _ = exec .srst { s with pending := rest } := (exec_srst _).symm

end Sys2Proof.Machine
